-- ==== Sys2Proof/Word.lean ====
section
/-! DEFINITION. The words of the gose addressing block: bytes, 24-bit bus addresses, and the request tuples that
arrive on its three interfaces. The block executes no instruction words (30_encoding.md R100): its "encoding" is the
request tuple of R105, `(mode, op)`, `(W, aaaa, dd)`, `(R, aaaa)` or `(qsel, args)`. -/

namespace Sys2Proof

/-- One byte, the only datum width of every access (20_memory.md R80, R90). -/
abbrev Byte := BitVec 8

/-- A Memory Bus address: bank in bits 23:16, offset in bits 15:0 (R80, R81). -/
abbrev Addr24 := BitVec 24

/-- Direction of an MMIO transaction (R111). -/
inductive Direction where
  | read
  | write
deriving DecidableEq, Repr

/-- A request as it stands on an interface, before the block decides whether it defines it. -/
inductive Request where
  /-- ARE interface (R101): the 4-bit mode selector and the operand bytes in the order they were fetched (R102);
  the register-file snapshot `R` is the register file current at the request, held in the state (R27, R105). -/
  | are (mode : BitVec 4) (operand : List Byte)
  /-- MMIO interface (R111): one 8-bit register write. -/
  | mmioWrite (addr : BitVec 16) (data : Byte)
  /-- MMIO interface (R111): one 8-bit register read. -/
  | mmioRead (addr : BitVec 16)
  /-- Tile-query interface (R120): the 2-bit selector and its arguments, naturals of any size. -/
  | query (qsel : BitVec 2) (args : List Nat)
deriving DecidableEq, Repr

end Sys2Proof
end

