-- ==== Sys2Proof/Config.lean ====
section
/-! DEFINITION. What the spec fixes once for a block: the named parameters of 00_scope.md R9 (with the defaults of
92_eei_decisions.md D7 and D17), the size of OAM, and the free values of 93_implementation_defined.md U10 and U11. -/

namespace Sys2Proof

/-- The parameters the spec leaves OPEN with a default (D7, D17; U8, U9). They are plain data held in the state and
changed by nothing, so a statement about every state holds for every value of them. -/
structure Params where
  /-- `FORCED_XH`, the high byte an X read takes under E = 1 (R23). -/
  forcedXH : Byte := 0x00
  /-- `FORCED_YH`, the high byte a Y read takes under E = 1 (R23). -/
  forcedYH : Byte := 0x00
  /-- `FORCED_SH`, the high byte an S read takes under E = 1 (R24). -/
  forcedSH : Byte := 0x01
  /-- `VRAM_SIZE`, the number of bytes behind the VRAM read port (R84). -/
  vramSize : Nat := 65536
deriving DecidableEq, Repr

/-- `OAM_SIZE`: 512 sprite bytes and 32 high-table bytes (R9, R42). -/
def Config.oamSize : Nat := 544

/-- The size of the Memory Bus address space in bytes (R80). -/
def Config.busSize : Nat := 2 ^ 24

/-- FREE VALUE (U10: "any value"). What the Memory Bus answers on the given draw at the given address where the
environment has fixed no byte there. It has no body: nothing is known of it (assumption log 3). -/
opaque Config.busAnswer : Nat → Addr24 → Byte

/-- FREE VALUE (U11: "any value"). What the VRAM read port answers on the given draw at the given reduced address
where the environment has fixed no byte there (assumption log 3). -/
opaque Config.vramAnswer : Nat → Nat → Byte

end Sys2Proof
end

