-- ==== Sys2Proof/Syntax.lean ====
section
/-! DEFINITION. The operations of the block, one constructor per row of spec/opcode_table.json: eleven addressing
modes (R101), thirty-five MMIO registers (R110) and four tile queries (R120). Operand domains are carried by the
operand types: a layer is a `Fin 4`, a screen mode a `BitVec 3`, a tile coordinate a natural of any size (D28, D30). -/

namespace Sys2Proof

/-- One operation of the block (00_scope.md R7: each runs to completion before the next begins). -/
inductive Instr where
  /-- ABS (R201). -/
  | abs (op16 : BitVec 16)
  /-- ABSX (R203). -/
  | absx (op16 : BitVec 16)
  /-- ABSY (R204). -/
  | absy (op16 : BitVec 16)
  /-- DP (R208). -/
  | dp (op8 : Byte)
  /-- DPX (R209). -/
  | dpx (op8 : Byte)
  /-- DPY (R210). -/
  | dpy (op8 : Byte)
  /-- DPIND (R214). -/
  | dpind (op8 : Byte)
  /-- DPXIND (R215). -/
  | dpxind (op8 : Byte)
  /-- DPINDY (R216). -/
  | dpindy (op8 : Byte)
  /-- DPINDL (R217). -/
  | dpindl (op8 : Byte)
  /-- DPINDLY (R219). -/
  | dpindly (op8 : Byte)
  /-- OAMADDL, write of $2102 (R360). -/
  | oamaddl (b : Byte)
  /-- OAMADDH, write of $2103 (R361). -/
  | oamaddh (b : Byte)
  /-- OAMDATA, write of $2104 (R363). -/
  | oamdata (b : Byte)
  /-- BGMODE, write of $2105 (R251). -/
  | bgmode (b : Byte)
  /-- MOSAIC, write of $2106 (R252). -/
  | mosaic (b : Byte)
  /-- BG1SC, write of $2107 (R253). -/
  | bg1sc (b : Byte)
  /-- BG2SC, write of $2108 (R254). -/
  | bg2sc (b : Byte)
  /-- BG3SC, write of $2109 (R255). -/
  | bg3sc (b : Byte)
  /-- BG4SC, write of $210A (R256). -/
  | bg4sc (b : Byte)
  /-- BG12NBA, write of $210B (R257). -/
  | bg12nba (b : Byte)
  /-- BG34NBA, write of $210C (R258). -/
  | bg34nba (b : Byte)
  /-- BG1HOFS, write of $210D (R292). -/
  | bg1hofs (b : Byte)
  /-- BG1VOFS, write of $210E (R293). -/
  | bg1vofs (b : Byte)
  /-- BG2HOFS, write of $210F (R294). -/
  | bg2hofs (b : Byte)
  /-- BG2VOFS, write of $2110 (R295). -/
  | bg2vofs (b : Byte)
  /-- BG3HOFS, write of $2111 (R296). -/
  | bg3hofs (b : Byte)
  /-- BG3VOFS, write of $2112 (R297). -/
  | bg3vofs (b : Byte)
  /-- BG4HOFS, write of $2113 (R298). -/
  | bg4hofs (b : Byte)
  /-- BG4VOFS, write of $2114 (R299). -/
  | bg4vofs (b : Byte)
  /-- M7SEL, write of $211A (R340). -/
  | m7sel (b : Byte)
  /-- M7A, write of $211B (R343). -/
  | m7a (b : Byte)
  /-- M7B, write of $211C (R344). -/
  | m7b (b : Byte)
  /-- M7C, write of $211D (R345). -/
  | m7c (b : Byte)
  /-- M7D, write of $211E (R346). -/
  | m7d (b : Byte)
  /-- M7X, write of $211F (R347). -/
  | m7x (b : Byte)
  /-- M7Y, write of $2120 (R348). -/
  | m7y (b : Byte)
  /-- W12SEL, write of $2123 (R259). -/
  | w12sel (b : Byte)
  /-- W34SEL, write of $2124 (R260). -/
  | w34sel (b : Byte)
  /-- WBGLOG, write of $212A (R261). -/
  | wbglog (b : Byte)
  /-- TM, write of $212C (R262). -/
  | tm (b : Byte)
  /-- TS, write of $212D (R263). -/
  | ts (b : Byte)
  /-- TMW, write of $212E (R264). -/
  | tmw (b : Byte)
  /-- TSW, write of $212F (R265). -/
  | tsw (b : Byte)
  /-- CGADSUB, write of $2131 (R266). -/
  | cgadsub (b : Byte)
  /-- OAMDATAREAD, read of $2138 (R365). -/
  | oamdataread
  /-- TMADDR, `tilemapAddress(layer, x, y)` (R311). -/
  | tmaddr (layer : Fin 4) (x y : Nat)
  /-- TILE, `tileFromBackground(layer, x, y)` (R313). -/
  | tile (layer : Fin 4) (x y : Nat)
  /-- VALIDBG, `validBackgrounds(mode)` (R270). -/
  | validbg (mode : BitVec 3)
  /-- CDEPTH, `colorDepth(mode, layer)` (R271). -/
  | cdepth (mode : BitVec 3) (layer : Fin 4)
deriving DecidableEq, Repr

end Sys2Proof
end

