-- ==== Sys2Proof/WellFormed.lean ====
section
/-! DEFINITION. Which requests the block's interfaces define, stated from the domains of 30_encoding.md and not from
the decoder: R101, R103 and R123 for the ARE interface, R110 and R111 for MMIO, R120 for the tile queries. Every
well-typed `Instr` is well formed (its operand types are the domains), so the checks stand on the request. -/

namespace Sys2Proof

/-- The register addresses that R110 marks W. -/
def mmioWritable : List (BitVec 16) :=
  [0x2102, 0x2103, 0x2104, 0x2105, 0x2106, 0x2107, 0x2108, 0x2109, 0x210A,
   0x210B, 0x210C, 0x210D, 0x210E, 0x210F, 0x2110, 0x2111, 0x2112, 0x2113,
   0x2114, 0x211A, 0x211B, 0x211C, 0x211D, 0x211E, 0x211F, 0x2120, 0x2123,
   0x2124, 0x212A, 0x212C, 0x212D, 0x212E, 0x212F, 0x2131]

/-- The register addresses that R110 marks R. -/
def mmioReadable : List (BitVec 16) := [0x2138]

/-- How many operand bytes each mode selector takes: two for 0x0 to 0x2, one for 0x3 to 0xA, and `none` for the
reserved selectors (R101, R123). -/
def areOperandBytes (mode : BitVec 4) : Option Nat :=
  if mode < 0x3 then some 2 else if mode < 0xB then some 1 else none

/-- The request is one the block's interfaces define (the complement of the reserved forms of R122). -/
def Request.WellFormed : Request → Bool
  | .are mode operand => areOperandBytes mode == some operand.length
  | .mmioWrite addr _ => mmioWritable.contains addr
  | .mmioRead addr => mmioReadable.contains addr
  | .query 0 [layer, _, _] => layer < 4
  | .query 1 [layer, _, _] => layer < 4
  | .query 2 [mode] => mode < 8
  | .query 3 [mode, layer] => mode < 8 && layer < 4
  | .query _ _ => false

end Sys2Proof
end

