-- ==== Sys2Proof/Decode.lean ====
section
/-! DEFINITION. From requests to operations and back (30_encoding.md): the decoder, total on any request and refusing
by name what no interface defines; after it the encoder, written from the same tables of the spec. -/

namespace Sys2Proof

/-- Why the block's interfaces refuse a request (60_exceptions.md R402), raised by `decode`. -/
inductive DecodeError where
  /-- An ARE selector of 0xB to 0xF (R103). -/
  | areModeReserved (mode : BitVec 4)
  /-- An ARE operand of the wrong width for its mode, with the number of bytes given (R103). -/
  | areOperandWidth (mode : BitVec 4) (bytes : Nat)
  /-- An (address, direction) pair that is no row of R110 (R111, D32). -/
  | mmioUnmapped (dir : Direction) (addr : BitVec 16)
  /-- A tile query with a number of arguments its selector does not take (R120, R122). -/
  | queryArguments (qsel : BitVec 2) (given : Nat)
  /-- A tile query with a layer outside 0..3 (R120, D28). -/
  | queryLayer (layer : Nat)
  /-- A tile query with a mode outside 0..7 (R120, D28). -/
  | queryMode (mode : Nat)
deriving DecidableEq, Repr

/-- The operand form of an addressing mode: 16 bits for the Absolute family, 8 for the Direct family (R101, R123). -/
inductive AreForm where
  | op16 (make : BitVec 16 → Instr)
  | op8 (make : Byte → Instr)

/-- `op16 = {opByte2, opByte1}` (R102, D36). -/
def op16OfBytes (first second : Byte) : BitVec 16 := second ++ first

/-- The two operand bytes of an `op16` in the order they are fetched (R102). -/
def bytesOfOp16 (op16 : BitVec 16) : List Byte := [op16.extractLsb' 0 8, op16.extractLsb' 8 8]

/-- The ARE selectors of R101. -/
def areMap : List (BitVec 4 × AreForm) :=
  [(0x0, .op16 .abs), (0x1, .op16 .absx), (0x2, .op16 .absy), (0x3, .op8 .dp),
   (0x4, .op8 .dpx), (0x5, .op8 .dpy), (0x6, .op8 .dpind), (0x7, .op8 .dpxind),
   (0x8, .op8 .dpindy), (0x9, .op8 .dpindl), (0xA, .op8 .dpindly)]

/-- The written registers of the MMIO map R110. -/
def mmioWriteMap : List (BitVec 16 × (Byte → Instr)) :=
  [(0x2102, .oamaddl), (0x2103, .oamaddh), (0x2104, .oamdata), (0x2105, .bgmode), (0x2106, .mosaic),
   (0x2107, .bg1sc), (0x2108, .bg2sc), (0x2109, .bg3sc), (0x210A, .bg4sc), (0x210B, .bg12nba),
   (0x210C, .bg34nba), (0x210D, .bg1hofs), (0x210E, .bg1vofs), (0x210F, .bg2hofs), (0x2110, .bg2vofs),
   (0x2111, .bg3hofs), (0x2112, .bg3vofs), (0x2113, .bg4hofs), (0x2114, .bg4vofs), (0x211A, .m7sel),
   (0x211B, .m7a), (0x211C, .m7b), (0x211D, .m7c), (0x211E, .m7d), (0x211F, .m7x),
   (0x2120, .m7y), (0x2123, .w12sel), (0x2124, .w34sel), (0x212A, .wbglog), (0x212C, .tm),
   (0x212D, .ts), (0x212E, .tmw), (0x212F, .tsw), (0x2131, .cgadsub)]

/-- The read registers of the MMIO map R110. -/
def mmioReadMap : List (BitVec 16 × Instr) := [(0x2138, .oamdataread)]

/-- An ARE request (R101 to R103). -/
def decodeAre (mode : BitVec 4) (operand : List Byte) : Except DecodeError Instr :=
  match areMap.lookup mode, operand with
  | some (.op16 make), [first, second] => .ok (make (op16OfBytes first second))
  | some (.op8 make), [only] => .ok (make only)
  | some _, _ => .error (.areOperandWidth mode operand.length)
  | none, _ => .error (.areModeReserved mode)

/-- The layer argument of a tile query, 0..3 (R120). -/
def decodeLayer (layer : Nat) : Except DecodeError (Fin 4) :=
  if h : layer < 4 then .ok ⟨layer, h⟩ else .error (.queryLayer layer)

/-- The mode argument of a tile query, 0..7 (R120). -/
def decodeMode (mode : Nat) : Except DecodeError (BitVec 3) :=
  if mode < 8 then .ok (BitVec.ofNat 3 mode) else .error (.queryMode mode)

/-- A tile query (R120). -/
def decodeQuery (qsel : BitVec 2) (args : List Nat) : Except DecodeError Instr :=
  match qsel, args with
  | 0, [layer, x, y] => (decodeLayer layer).map fun n => .tmaddr n x y
  | 1, [layer, x, y] => (decodeLayer layer).map fun n => .tile n x y
  | 2, [mode] => (decodeMode mode).map .validbg
  | 3, [mode, layer] => (decodeMode mode).bind fun m => (decodeLayer layer).map (.cdepth m)
  | qsel, args => .error (.queryArguments qsel args.length)

/-- The operation a request asks for, or the name of the reason the interfaces refuse it (R122, R402). -/
def decode : Request → Except DecodeError Instr
  | .are mode operand => decodeAre mode operand
  | .mmioWrite addr data =>
    match mmioWriteMap.lookup addr with
    | some make => .ok (make data)
    | none => .error (.mmioUnmapped .write addr)
  | .mmioRead addr =>
    match mmioReadMap.lookup addr with
    | some i => .ok i
    | none => .error (.mmioUnmapped .read addr)
  | .query qsel args => decodeQuery qsel args

/-- The request tuple of an operation (R105), from R101, R110 and R120. -/
def encode : Instr → Request
  | .abs op16 => .are 0x0 (bytesOfOp16 op16)
  | .absx op16 => .are 0x1 (bytesOfOp16 op16)
  | .absy op16 => .are 0x2 (bytesOfOp16 op16)
  | .dp op8 => .are 0x3 [op8]
  | .dpx op8 => .are 0x4 [op8]
  | .dpy op8 => .are 0x5 [op8]
  | .dpind op8 => .are 0x6 [op8]
  | .dpxind op8 => .are 0x7 [op8]
  | .dpindy op8 => .are 0x8 [op8]
  | .dpindl op8 => .are 0x9 [op8]
  | .dpindly op8 => .are 0xA [op8]
  | .oamaddl b => .mmioWrite 0x2102 b
  | .oamaddh b => .mmioWrite 0x2103 b
  | .oamdata b => .mmioWrite 0x2104 b
  | .bgmode b => .mmioWrite 0x2105 b
  | .mosaic b => .mmioWrite 0x2106 b
  | .bg1sc b => .mmioWrite 0x2107 b
  | .bg2sc b => .mmioWrite 0x2108 b
  | .bg3sc b => .mmioWrite 0x2109 b
  | .bg4sc b => .mmioWrite 0x210A b
  | .bg12nba b => .mmioWrite 0x210B b
  | .bg34nba b => .mmioWrite 0x210C b
  | .bg1hofs b => .mmioWrite 0x210D b
  | .bg1vofs b => .mmioWrite 0x210E b
  | .bg2hofs b => .mmioWrite 0x210F b
  | .bg2vofs b => .mmioWrite 0x2110 b
  | .bg3hofs b => .mmioWrite 0x2111 b
  | .bg3vofs b => .mmioWrite 0x2112 b
  | .bg4hofs b => .mmioWrite 0x2113 b
  | .bg4vofs b => .mmioWrite 0x2114 b
  | .m7sel b => .mmioWrite 0x211A b
  | .m7a b => .mmioWrite 0x211B b
  | .m7b b => .mmioWrite 0x211C b
  | .m7c b => .mmioWrite 0x211D b
  | .m7d b => .mmioWrite 0x211E b
  | .m7x b => .mmioWrite 0x211F b
  | .m7y b => .mmioWrite 0x2120 b
  | .w12sel b => .mmioWrite 0x2123 b
  | .w34sel b => .mmioWrite 0x2124 b
  | .wbglog b => .mmioWrite 0x212A b
  | .tm b => .mmioWrite 0x212C b
  | .ts b => .mmioWrite 0x212D b
  | .tmw b => .mmioWrite 0x212E b
  | .tsw b => .mmioWrite 0x212F b
  | .cgadsub b => .mmioWrite 0x2131 b
  | .oamdataread => .mmioRead 0x2138
  | .tmaddr layer x y => .query 0 [layer.val, x, y]
  | .tile layer x y => .query 1 [layer.val, x, y]
  | .validbg mode => .query 2 [mode.toNat]
  | .cdepth mode layer => .query 3 [mode.toNat, layer.val]

/-- The operand bytes a table word of the ARE format gives above its 4-bit selector. -/
def tableOperand (mode : BitVec 4) (operand : Nat) : List Byte :=
  match areMap.lookup mode with
  | some (.op16 _) => [BitVec.ofNat 8 operand, BitVec.ofNat 8 (operand / 256)]
  | some (.op8 _) => [BitVec.ofNat 8 operand]
  | none => []

/-- The request that a word of spec/opcode_table.json stands for (assumption log 8). The table gives a row of the MMIO
formats the 16 address bits, a row of the ARE format the 4 selector bits and a row of the QUERY format the 2 selector
bits; which interface a request arrives on is no bit of it. A word of up to 8 bits is read on the ARE interface, one
of at most 2 bits on the tile-query interface with arguments 0, a longer one on the MMIO interface in the direction
that R110 gives its address. -/
def tableRequest (nbits w : Nat) : Request :=
  if nbits ≤ 2 then
    let qsel := BitVec.ofNat 2 w
    .query qsel (if qsel = 2 then [0] else if qsel = 3 then [0, 0] else [0, 0, 0])
  else if nbits ≤ 8 then .are (BitVec.ofNat 4 w) (tableOperand (BitVec.ofNat 4 w) (w / 16))
  else if mmioReadable.contains (BitVec.ofNat 16 w) then .mmioRead (BitVec.ofNat 16 w)
  else .mmioWrite (BitVec.ofNat 16 w) (BitVec.ofNat 8 (w / 65536))

/-- What the decoder reads from a word numbered as spec/opcode_table.json numbers its bits. -/
def decodeTableWord (nbits w : Nat) : Option Instr := (decode (tableRequest nbits w)).toOption

end Sys2Proof
end

