-- ==== Sys2Proof/Machine/State.lean ====
section
/-! DEFINITION. The state of the block and its surroundings as plain data: the unit records of 10_state.md sections 2
to 5, the register file the block reads (section 1), what the Memory Bus and the VRAM port are known to answer, the
reads made of them (20_memory.md R83), the requests waiting on the interfaces, and what the last operation returned. -/

namespace Sys2Proof.Machine

/-- The processor's register file (R20). The block reads D, DBR, X, Y and E and writes none of it (R21). -/
structure RegFile where
  /-- Accumulator; AL = A[7:0], AH = A[15:8] (R22). -/
  a : BitVec 16
  x : BitVec 16
  y : BitVec 16
  /-- Stack pointer, 16 bits (D2). -/
  s : BitVec 16
  /-- Direct-page register (R25). -/
  d : BitVec 16
  dbr : BitVec 8
  k : BitVec 8
  pc : BitVec 16
  /-- Emulation flag (R26). -/
  e : Bool
  c : Bool
  z : Bool
  n : Bool
deriving DecidableEq, Repr

/-- One background record (R30). -/
structure BgRecord where
  tileSize16 : Bool
  mosaic : Bool
  priority : Bool
  screenSize : BitVec 2
  tilemapBase : BitVec 6
  tilesetBase : BitVec 4
  hScroll : BitVec 10
  vScroll : BitVec 10
  win1Mask : BitVec 2
  win2Mask : BitVec 2
  winLogic : BitVec 2
  mainShow : Bool
  subShow : Bool
  mainWindow : Bool
  subWindow : Bool
  colorMath : Bool
deriving DecidableEq, Repr

/-- The Mode-7 record (R38): `m7cache`, the eight parameters and the settings. -/
structure Mode7 where
  cache : BitVec 16
  a : BitVec 16
  b : BitVec 16
  c : BitVec 16
  d : BitVec 16
  hofs : BitVec 16
  vofs : BitVec 16
  x : BitVec 16
  y : BitVec 16
  screenOver : BitVec 2
  hFlip : Bool
  vFlip : Bool
deriving DecidableEq, Repr

/-- The eight parameters of the Mode-7 cascade (R38, R341). -/
inductive M7Param where
  | a | b | c | d | hofs | vofs | x | y
deriving DecidableEq, Repr

/-- Memory as a list of bytes by address, in one canonical form (`Memory.wf`, Machine/Ops.lean). -/
abbrev Memory := List Host.Cell

/-- The three memories the block reaches by address: the Memory Bus (R80), video memory (R84), OAM (R85). -/
inductive Space where
  | bus
  | vram
  | oam
deriving DecidableEq, Repr

/-- The OAM Unit (R42). `bytes` holds `OAM[0..543]`. -/
structure Oam where
  bytes : Memory
  addrReg : BitVec 9
  prioRot : Bool
  word : BitVec 9
  flip : Bool
  latch : Byte
  last : BitVec 9
deriving DecidableEq, Repr

/-- The tile record TILE returns (R313, R317). -/
structure TileRecord where
  palette : BitVec 3
  dataAddr : Nat
  depth : Nat
  hFlip : Bool
  vFlip : Bool
  priority : Bool
  width : Nat
  height : Nat
deriving DecidableEq, Repr

/-- The faults an operation can end in (60_exceptions.md). Both are SAFE: the spec ends the operation there. -/
inductive Fault where
  /-- `ConfigurationError(mode, layer)`, cause code 1, raised by CDEPTH and TILE (R400). Safe. -/
  | configurationError (mode : BitVec 3) (layer : Fin 4)
  /-- `OamOutOfRange(position)`, cause code 2, raised by an odd OAMDATA write and by OAMDATAREAD (R401). Safe. -/
  | oamOutOfRange (position : Nat)
deriving DecidableEq, Repr

/-- The refusals of a request, cause code 3 (R402). All are SAFE: nothing is done. -/
inductive Refusal where
  /-- An arm of `exec` without a meaning; no operation of this model answers with it. Safe. -/
  | notModelled (mnemonic : String)
  /-- The interfaces do not define the request; raised where a request is taken from an interface (R402). Safe. -/
  | undefinedRequest (why : DecodeError)
  /-- The request comes from another emulated machine or thread than the one that owns the block (R8, D33); raised
  where a request is taken from an interface. Safe. -/
  | sharedUse (caller : Nat)
deriving DecidableEq, Repr

/-- What the last operation returned to its caller. -/
inductive Result where
  /-- Nothing: a register write "has no return value" (R12, R250). -/
  | nothing
  /-- The address pair of a 16-bit operand (R200). -/
  | pair (hi lo : Addr24)
  /-- The 24-bit pointer of an indirect mode (R200). -/
  | pointer (p : Addr24)
  /-- The byte an MMIO read returns (R365). -/
  | byte (b : Byte)
  /-- A tilemap address, a natural (R311). -/
  | address (a : Nat)
  /-- A tile record (R313). -/
  | tile (t : TileRecord)
  /-- The ordered list of active layers (R270). -/
  | layers (l : List (Fin 4))
  /-- A color depth (R271). -/
  | depth (d : Nat)
  /-- The operation ended in a fault, which is its result (R406). -/
  | fault (f : Fault)
  /-- The request was refused (R402). -/
  | refusal (r : Refusal)
deriving DecidableEq, Repr

/-- What reaches the block from outside, in the order it comes (00_scope.md R7, 20_memory.md R95): requests of the
host's dispatchers (R443), and the changes that the opcode layer and the owners of the Memory Bus and of video memory
make between requests (R27, R83, R96). -/
inductive Input where
  /-- A request, from the emulated machine or thread `caller` (R8). -/
  | request (caller : Nat) (r : Request)
  /-- The opcode layer changes the register file: the next request's snapshot is `regs` (R27). -/
  | registers (regs : RegFile)
  /-- From now on the Memory Bus answers `byte` at `addr` (a store, `setByte`, R80); with `none`, any value again. -/
  | busCell (addr : Addr24) (byte : Option Byte)
  /-- From now on the VRAM port answers `byte` at `addr mod VRAM_SIZE`; with `none`, any value again. -/
  | vramCell (addr : Nat) (byte : Option Byte)
deriving DecidableEq, Repr

/-- The state of one block instance and of what it is connected to. -/
structure State where
  /-- The parameters of the instance (R9). No step changes them. -/
  params : Params
  /-- The emulated machine or thread that owns the instance (R8). No step changes it. -/
  owner : Nat
  /-- The register file as the caller supplies it to a request (R20, R27). -/
  regs : RegFile
  /-- `bg[0]` to `bg[3]` (R30). -/
  bg : Vector BgRecord 4
  screenMode : BitVec 3
  mosaicSize : BitVec 4
  latch1 : Byte
  latch2 : Byte
  m7 : Mode7
  oam : Oam
  /-- The Memory Bus bytes that are known; an address not listed answers any value (U10). -/
  bus : Memory
  /-- The video memory bytes that are known; an address not listed answers any value (U11). -/
  vram : Memory
  /-- The model's own: the number of the next draw of a free value, one per read of the bus or of video memory. -/
  draws : Nat
  /-- The Memory Bus reads made, oldest first, with the answers (R83). -/
  busLog : List (Addr24 × Byte)
  /-- The VRAM reads made, oldest first, with the answers (R84, D34). -/
  vramLog : List (Nat × Byte)
  /-- What waits on the interfaces, first to come first. -/
  inputs : List Input
  result : Result
  /-- Every fault so far, oldest first, never cleared (R407). -/
  faults : List Fault
  /-- Every refusal so far, oldest first, never cleared (U4, R444). -/
  refusals : List Refusal
deriving DecidableEq, Repr

/-- A background record at construction (R48). -/
def BgRecord.zero : BgRecord :=
  { tileSize16 := false, mosaic := false, priority := false, screenSize := 0, tilemapBase := 0, tilesetBase := 0,
    hScroll := 0, vScroll := 0, win1Mask := 0, win2Mask := 0, winLogic := 0, mainShow := false, subShow := false,
    mainWindow := false, subWindow := false, colorMath := false }

/-- The Mode-7 record at construction (R48). -/
def Mode7.zero : Mode7 :=
  { cache := 0, a := 0, b := 0, c := 0, d := 0, hofs := 0, vofs := 0, x := 0, y := 0, screenOver := 0,
    hFlip := false, vFlip := false }

/-- The OAM Unit at construction: every byte and every register zero (R48). -/
def Oam.zero : Oam :=
  { bytes := [], addrReg := 0, prioRot := false, word := 0, flip := false, latch := 0, last := 0 }

/-- The register file at reset, in the values R432 gives for information: E = 1, D = 0, DBR = 0, K = 0, index high bytes
0x00 and S high byte 0x01; the parts it calls undefined are 0 (assumption log 1). -/
def RegFile.reset : RegFile :=
  { a := 0, x := 0, y := 0, s := 0x0100, d := 0, dbr := 0, k := 0, pc := 0, e := true, c := false, z := false,
    n := false }

/-- A new instance for the emulated machine `owner` (R430, R443 "construct"). -/
def State.construct (params : Params) (owner : Nat) : State :=
  { params := params, owner := owner, regs := RegFile.reset, bg := Vector.replicate 4 BgRecord.zero, screenMode := 0,
    mosaicSize := 0, latch1 := 0, latch2 := 0, m7 := Mode7.zero, oam := Oam.zero, bus := [], vram := [], draws := 0,
    busLog := [], vramLog := [], inputs := [], result := .nothing, faults := [], refusals := [] }

/-- The block right after construction, its one initialisation event (R430, R431), with the default parameters. -/
def State.reset : State := State.construct ({} : Params) 0

end Sys2Proof.Machine
end

