-- ==== Sys2Proof/Machine/Ops.lean ====
section
/-! DEFINITION. The named operations over memory and state that every meaning is built from; the reads of the Memory
Bus and of video memory; ending an operation in a fault or a refusal. -/

namespace Sys2Proof.Machine

/-- The form of one operation's outcome. -/
abbrev Reply := Host.Outcome State Fault Refusal

/-! ### Memory -/

/-- The listed byte of an address. -/
def Memory.find (m : Memory) (a : Nat) : Option Byte :=
  match m with
  | [] => none
  | c :: m => if c.1 = a then some c.2 else Memory.find m a

/-- List an address with a byte, in address order. -/
def Memory.insert (m : Memory) (a : Nat) (b : Byte) : Memory :=
  match m with
  | [] => [(a, b)]
  | c :: m =>
    if a < c.1 then (a, b) :: c :: m else if a = c.1 then (a, b) :: m else c :: Memory.insert m a b

/-- List an address no longer. -/
def Memory.erase (m : Memory) (a : Nat) : Memory := m.filter fun c => c.1 ≠ a

/-- What an unlisted address reads as: an OAM byte is zero at construction (R48); the Memory Bus and video memory fix
nothing (U10, U11), so a read of them there takes a free value. -/
def unlisted : Space → Option Byte
  | .bus => none
  | .vram => none
  | .oam => some 0x00

/-- The byte at an address, `none` where nothing fixes it. -/
def Memory.read (sp : Space) (m : Memory) (a : Nat) : Option Byte := (Memory.find m a).or (unlisted sp)

/-- Write a byte; writing what an unlisted address reads as removes the entry. -/
def Memory.write (sp : Space) (m : Memory) (a : Nat) (b : Byte) : Memory :=
  if unlisted sp = some b then Memory.erase m a else Memory.insert m a b

/-- Fix a byte, or leave it open again. -/
def Memory.put (sp : Space) (m : Memory) (a : Nat) (v : Option Byte) : Memory :=
  match v with
  | some b => Memory.write sp m a b
  | none => Memory.erase m a

/-- The canonical form: addresses strictly rising and below the space's size, no entry equal to what an unlisted
address reads as. -/
abbrev Memory.wf (sp : Space) (size : Nat) (m : Memory) : Prop :=
  m.Pairwise (fun c d => c.1 < d.1) ∧ ∀ c ∈ m, c.1 < size ∧ unlisted sp ≠ some c.2

/-! ### Registers of the block -/

/-- Return a result to the caller. -/
def State.answer (s : State) (r : Result) : State := { s with result := r }

/-- The record `bg[n]` (R30). -/
def State.layer (s : State) (n : Fin 4) : BgRecord := s.bg[n.val]

/-- Replace the record `bg[n]`. -/
def State.setLayer (s : State) (n : Fin 4) (r : BgRecord) : State := { s with bg := s.bg.set n.val r }

/-- Rewrite every layer's record (`for n in 0..3`, R251 to R266). -/
def State.mapLayers (s : State) (f : Fin 4 → BgRecord → BgRecord) : State :=
  { s with bg := #v[f 0 (s.layer 0), f 1 (s.layer 1), f 2 (s.layer 2), f 3 (s.layer 3)] }

def State.setScreenMode (s : State) (v : BitVec 3) : State := { s with screenMode := v }

def State.setMosaicSize (s : State) (v : BitVec 4) : State := { s with mosaicSize := v }

def State.setLatches (s : State) (latch1 latch2 : Byte) : State := { s with latch1 := latch1, latch2 := latch2 }

def State.setM7 (s : State) (m : Mode7) : State := { s with m7 := m }

def State.setOam (s : State) (o : Oam) : State := { s with oam := o }

def State.setRegs (s : State) (r : RegFile) : State := { s with regs := r }

def State.setBus (s : State) (m : Memory) : State := { s with bus := m }

def State.setVram (s : State) (m : Memory) : State := { s with vram := m }

def State.setInputs (s : State) (l : List Input) : State := { s with inputs := l }

/-! ### Fields of a written byte (R10, R112) -/

/-- `b[lo + w - 1 : lo]`. -/
def field (b : Byte) (lo w : Nat) : BitVec w := b.extractLsb' lo w

/-! ### External reads -/

/-- Record one Memory Bus read and its answer (R83). -/
def State.logBusRead (s : State) (a : Addr24) (b : Byte) : State :=
  { s with draws := s.draws + 1, busLog := s.busLog ++ [(a, b)] }

/-- Record one VRAM read and its answer (R84, D34). -/
def State.logVramRead (s : State) (a : Nat) (b : Byte) : State :=
  { s with draws := s.draws + 1, vramLog := s.vramLog ++ [(a, b)] }

/-- What the Memory Bus answers next at an address (R80, U10). -/
def State.busByte (s : State) (a : Addr24) : Byte :=
  (Memory.read .bus s.bus a.toNat).getD (Config.busAnswer s.draws a)

/-- What the VRAM port answers next at a reduced address (R84, U11). -/
def State.vramByte (s : State) (a : Nat) : Byte :=
  (Memory.read .vram s.vram a).getD (Config.vramAnswer s.draws a)

/-- `MemRead(a, 1)` (R11): one Memory Bus read. -/
def State.memRead (s : State) (a : Addr24) : Byte × State := (s.busByte a, s.logBusRead a (s.busByte a))

/-- The address `VramRead` sees: `a mod VRAM_SIZE` (R84). -/
def State.vramAddr (s : State) (a : Nat) : Nat := a % s.params.vramSize

/-- `VramRead(a mod VRAM_SIZE)` (R84): one VRAM read. -/
def State.vramRead (s : State) (a : Nat) : Byte × State :=
  (s.vramByte (s.vramAddr a), s.logVramRead (s.vramAddr a) (s.vramByte (s.vramAddr a)))

/-! ### Ending an operation in a fault or a refusal

The block has no trap entry and no trap return (R406, R407): nothing is saved and no mode changes. The fault is the
operation's result, is recorded and never cleared, and the block's state is the state before the operation; the caller
may issue further requests. -/

/-- The cause code of a fault (R400, R401, D25). -/
def Fault.causeCode : Fault → Nat
  | .configurationError _ _ => 1
  | .oamOutOfRange _ => 2

/-- The cause code of a refusal (R402, D25). -/
def Refusal.causeCode : Refusal → Nat := fun _ => 3

/-- Return a fault to the caller and record it (R400, R401, R406, R407). -/
def State.reportFault (s : State) (f : Fault) : State := { s with result := .fault f, faults := s.faults ++ [f] }

/-- Return a refusal to the caller and keep its mark (R402, U4). -/
def State.reportRefusal (s : State) (r : Refusal) : State :=
  { s with result := .refusal r, refusals := s.refusals ++ [r] }

end Sys2Proof.Machine
end

