-- ==== Sys2Proof/Machine/Flags.lean ====
section
/-! DEFINITION. Flags. The block writes no processor flag ("the opcode layer is responsible for flag updates", R21) and
reads only E; the other flags here are the 1-bit fields a register write sets from bits of its byte (R112). -/

namespace Sys2Proof.Machine

/-- The processor's condition flags as one value: C, Z and N (R20), which no operation of the block reads or writes. -/
structure ConditionFlags where
  c : Bool
  z : Bool
  n : Bool
deriving DecidableEq, Repr

/-- The condition flags of a register file. -/
def RegFile.conditionFlags (r : RegFile) : ConditionFlags := ⟨r.c, r.z, r.n⟩

/-- Direct-page path selection (R205): the special path is taken when E = 1 and DL = 0x00. -/
def special (r : RegFile) : Bool := r.e && r.d.extractLsb' 0 8 == 0

/-- The 1-bit field that bit `i` of a written byte sets. -/
def flagBit (b : Byte) (i : Nat) : Bool := b.getLsbD i

/-- The enable bit of layer `n` in a register with one bit per layer, bit `first + n` (R112). -/
def layerBit (b : Byte) (first : Nat) (n : Fin 4) : Bool := flagBit b (first + n.val)

end Sys2Proof.Machine
end

