-- ==== Sys2Proof/Machine/Operands.lean ====
section
/-! DEFINITION. The operand forms of the Address Resolution Engine (40_address_resolution.md section 1, R205 to R213)
and the register reads they use (10_state.md R22 to R25). -/

namespace Sys2Proof.Machine

/-! ### Register file -/

/-- AL = A[7:0] (R20). -/
def RegFile.al (r : RegFile) : Byte := r.a.extractLsb' 0 8

/-- AH = A[15:8] (R20). -/
def RegFile.ah (r : RegFile) : Byte := r.a.extractLsb' 8 8

/-- The opcode layer writes AL: AH is unchanged (R22). -/
def RegFile.withAl (r : RegFile) (b : Byte) : RegFile := { r with a := r.ah ++ b }

/-- The opcode layer writes AH: AL is unchanged (R22). -/
def RegFile.withAh (r : RegFile) (b : Byte) : RegFile := { r with a := b ++ r.al }

/-- A 16-bit register read whose high byte is forced under E = 1 (R23, R24). -/
def forcedRead (e : Bool) (forced : Byte) (v : BitVec 16) : BitVec 16 :=
  if e then forced ++ v.extractLsb' 0 8 else v

/-- `idx(R, X)` (R23). -/
def idxX (p : Params) (r : RegFile) : BitVec 16 := forcedRead r.e p.forcedXH r.x

/-- `idx(R, Y)` (R23). -/
def idxY (p : Params) (r : RegFile) : BitVec 16 := forcedRead r.e p.forcedYH r.y

/-- The stack pointer read (R24); no addressing mode uses it. -/
def stackRead (p : Params) (r : RegFile) : BitVec 16 := forcedRead r.e p.forcedSH r.s

/-! ### Address arithmetic (R200) -/

/-- `base24(bank, off)`: the bank-qualified address, no carry (R81, D35). -/
def base24 (bank : BitVec 8) (off : BitVec 16) : Addr24 := bank ++ off

/-- `add24(a, n)`: addition modulo 2^24. -/
def add24 (a : Addr24) (n : BitVec 16) : Addr24 := a + n.setWidth 24

/-- `bankOf(a) = a[23:16]`. -/
def bankOf (a : Addr24) : BitVec 8 := a.extractLsb' 16 8

/-- `offOf(a) = a[15:0]`. -/
def offOf (a : Addr24) : BitVec 16 := a.extractLsb' 0 16

/-- The address pair of a 16-bit operand at `lo`: `hi = add24(lo, 1)` (R201, R203, R204). -/
def pairAt (lo : Addr24) : Result := .pair (add24 lo 1) lo

/-- Byte `k` of a direct-page location (R206). -/
def dpByte (r : RegFile) (op8 : Byte) (i : BitVec 16) (k : Nat) : Addr24 :=
  if special r then
    base24 0x00 (r.d.extractLsb' 8 8 ++ (op8 + i.extractLsb' 0 8 + BitVec.ofNat 8 k))
  else
    base24 0x00 (r.d + op8.setWidth 16 + i + BitVec.ofNat 16 k)

/-- The address pair of a direct-page operand (R208 to R210). -/
def dpPair (r : RegFile) (op8 : Byte) (i : BitVec 16) : Result := .pair (dpByte r op8 i 1) (dpByte r op8 i 0)

/-! ### Pointer reads -/

/-- `ptr16(R, op8, i)` (R212): two bus reads, the low byte first. -/
def State.ptr16 (s : State) (op8 : Byte) (i : BitVec 16) : BitVec 16 × State :=
  let (b0, s0) := s.memRead (dpByte s.regs op8 i 0)
  let (b1, s1) := s0.memRead (dpByte s.regs op8 i 1)
  (b1 ++ b0, s1)

/-- `ptr24(R, op8, i)` (R213): three bus reads, the bank byte last. -/
def State.ptr24 (s : State) (op8 : Byte) (i : BitVec 16) : Addr24 × State :=
  let (b0, s0) := s.memRead (dpByte s.regs op8 i 0)
  let (b1, s1) := s0.memRead (dpByte s.regs op8 i 1)
  let (b2, s2) := s1.memRead (dpByte s.regs op8 i 2)
  (b2 ++ (b1 ++ b0), s2)

end Sys2Proof.Machine
end

