-- ==== Sys2Proof/Machine/AddressResolution.lean ====
section
/-! DEFINITION. The eleven addressing modes (40_address_resolution.md R201 to R219). None writes a register, a flag or
memory; the five indirect ones read their pointer bytes from the Memory Bus (R82). -/

namespace Sys2Proof.Machine

/-- ABS (R201). -/
def execAbs (op16 : BitVec 16) (s : State) : Reply := .next (s.answer (pairAt (base24 s.regs.dbr op16)))

/-- ABSX (R203). -/
def execAbsx (op16 : BitVec 16) (s : State) : Reply :=
  .next (s.answer (pairAt (add24 (base24 s.regs.dbr op16) (idxX s.params s.regs))))

/-- ABSY (R204). -/
def execAbsy (op16 : BitVec 16) (s : State) : Reply :=
  .next (s.answer (pairAt (add24 (base24 s.regs.dbr op16) (idxY s.params s.regs))))

/-- DP (R208). -/
def execDp (op8 : Byte) (s : State) : Reply := .next (s.answer (dpPair s.regs op8 0))

/-- DPX (R209). -/
def execDpx (op8 : Byte) (s : State) : Reply := .next (s.answer (dpPair s.regs op8 (idxX s.params s.regs)))

/-- DPY (R210). -/
def execDpy (op8 : Byte) (s : State) : Reply := .next (s.answer (dpPair s.regs op8 (idxY s.params s.regs)))

/-- DPIND (R214): the pointer's bank is DBR, never a carry. -/
def execDpind (op8 : Byte) (s : State) : Reply :=
  let (p, t) := s.ptr16 op8 0
  .next (t.answer (.pointer (base24 s.regs.dbr p)))

/-- DPXIND (R215): X is added before the dereference. -/
def execDpxind (op8 : Byte) (s : State) : Reply :=
  let (p, t) := s.ptr16 op8 (idxX s.params s.regs)
  .next (t.answer (.pointer (base24 s.regs.dbr p)))

/-- DPINDY (R216): Y is added after the dereference, with a carry into the bank (D8). -/
def execDpindy (op8 : Byte) (s : State) : Reply :=
  let (p, t) := s.ptr16 op8 0
  .next (t.answer (.pointer (add24 (base24 s.regs.dbr p) (idxY s.params s.regs))))

/-- DPINDL (R217): the bank comes from memory, DBR is not read (R218). -/
def execDpindl (op8 : Byte) (s : State) : Reply :=
  let (p, t) := s.ptr24 op8 0
  .next (t.answer (.pointer p))

/-- DPINDLY (R219): the 24-bit pointer plus Y, modulo 2^24 (D8). -/
def execDpindly (op8 : Byte) (s : State) : Reply :=
  let (p, t) := s.ptr24 op8 0
  .next (t.answer (.pointer (add24 p (idxY s.params s.regs))))

end Sys2Proof.Machine
end

