-- ==== Sys2Proof/Machine/Background.lean ====
section
/-! DEFINITION. The Background Configuration Unit (41_background_config.md R250 to R272). Every write takes effect
whole, reads nothing but the written byte and discards the ignored bits (R250, D39). -/

namespace Sys2Proof.Machine

/-- A register write's end: the state it leaves, nothing returned (R250). -/
def State.written (s : State) : Reply := .next (s.answer .nothing)

/-- BGMODE (R251): `screenMode <- b[2:0]`, `bg[2].priority <- b[3]`, `bg[n].tileSize16 <- b[4 + n]`. -/
def execBgmode (b : Byte) (s : State) : Reply :=
  ((s.setScreenMode (field b 0 3)).mapLayers fun n r =>
    { r with
      tileSize16 := layerBit b 4 n
      priority := if n = 2 then flagBit b 3 else r.priority }).written

/-- MOSAIC (R252). -/
def execMosaic (b : Byte) (s : State) : Reply :=
  ((s.setMosaicSize (field b 4 4)).mapLayers fun n r => { r with mosaic := layerBit b 0 n }).written

/-- The write of layer `n`'s tilemap base and screen size, shared by BG1SC to BG4SC (R253 to R256). -/
def State.setTilemap (s : State) (n : Fin 4) (b : Byte) : State :=
  s.setLayer n { s.layer n with tilemapBase := field b 2 6, screenSize := field b 0 2 }

/-- BG1SC (R253). -/
def execBg1sc (b : Byte) (s : State) : Reply := (s.setTilemap 0 b).written

/-- BG2SC (R254). -/
def execBg2sc (b : Byte) (s : State) : Reply := (s.setTilemap 1 b).written

/-- BG3SC (R255). -/
def execBg3sc (b : Byte) (s : State) : Reply := (s.setTilemap 2 b).written

/-- BG4SC (R256). -/
def execBg4sc (b : Byte) (s : State) : Reply := (s.setTilemap 3 b).written

/-- The write of two layers' tileset bases, the low nibble to the first (R257, R258). -/
def State.setTilesets (s : State) (lowLayer highLayer : Fin 4) (b : Byte) : State :=
  s.mapLayers fun n r =>
    if n = lowLayer then { r with tilesetBase := field b 0 4 }
    else if n = highLayer then { r with tilesetBase := field b 4 4 }
    else r

/-- BG12NBA (R257). -/
def execBg12nba (b : Byte) (s : State) : Reply := (s.setTilesets 0 1 b).written

/-- BG34NBA (R258). -/
def execBg34nba (b : Byte) (s : State) : Reply := (s.setTilesets 2 3 b).written

/-- The write of two layers' window masks, the low nibble to the first (R259, R260). -/
def State.setWindowMasks (s : State) (lowLayer highLayer : Fin 4) (b : Byte) : State :=
  s.mapLayers fun n r =>
    if n = lowLayer then { r with win1Mask := field b 0 2, win2Mask := field b 2 2 }
    else if n = highLayer then { r with win1Mask := field b 4 2, win2Mask := field b 6 2 }
    else r

/-- W12SEL (R259). -/
def execW12sel (b : Byte) (s : State) : Reply := (s.setWindowMasks 0 1 b).written

/-- W34SEL (R260). -/
def execW34sel (b : Byte) (s : State) : Reply := (s.setWindowMasks 2 3 b).written

/-- WBGLOG (R261): `bg[n].winLogic <- b[2n+1:2n]`. -/
def execWbglog (b : Byte) (s : State) : Reply :=
  (s.mapLayers fun n r => { r with winLogic := field b (2 * n.val) 2 }).written

/-- TM (R262). -/
def execTm (b : Byte) (s : State) : Reply := (s.mapLayers fun n r => { r with mainShow := layerBit b 0 n }).written

/-- TS (R263). -/
def execTs (b : Byte) (s : State) : Reply := (s.mapLayers fun n r => { r with subShow := layerBit b 0 n }).written

/-- TMW (R264). -/
def execTmw (b : Byte) (s : State) : Reply := (s.mapLayers fun n r => { r with mainWindow := layerBit b 0 n }).written

/-- TSW (R265). -/
def execTsw (b : Byte) (s : State) : Reply := (s.mapLayers fun n r => { r with subWindow := layerBit b 0 n }).written

/-- CGADSUB (R266). -/
def execCgadsub (b : Byte) (s : State) : Reply :=
  (s.mapLayers fun n r => { r with colorMath := layerBit b 0 n }).written

/-! ### Mode tables -/

/-- `validBackgrounds(mode)` (R270). -/
def validBackgrounds (mode : BitVec 3) : List (Fin 4) :=
  [0] ++ (if mode < 6 then [1] else []) ++ (if mode < 2 then [2] else []) ++ (if mode = 0 then [3] else [])

/-- The row of a mode in the color-depth table, `none` for an error cell (R271). -/
def depthRow (mode : BitVec 3) : Vector (Option Nat) 4 :=
  match mode.toNat with
  | 0 => #v[some 2, some 2, some 2, some 2]
  | 1 => #v[some 4, some 4, some 2, none]
  | 2 => #v[some 4, some 4, none, none]
  | 3 => #v[some 8, some 4, none, none]
  | 4 => #v[some 8, some 4, none, none]
  | 5 => #v[some 4, some 2, none, none]
  | 6 => #v[some 4, none, none, none]
  | _ => #v[some 8, none, none, none]

/-- `colorDepth(mode, layer)`, `none` where it raises ConfigurationError (R271). -/
def colorDepth (mode : BitVec 3) (layer : Fin 4) : Option Nat := (depthRow mode)[layer.val]

/-- VALIDBG (R270). The query reads no state. -/
def execValidbg (mode : BitVec 3) (s : State) : Reply := .next (s.answer (.layers (validBackgrounds mode)))

/-- CDEPTH (R271). The query reads no state. -/
def execCdepth (mode : BitVec 3) (layer : Fin 4) (s : State) : Reply :=
  match colorDepth mode layer with
  | some d => .next (s.answer (.depth d))
  | none => .fault (.configurationError mode layer)

end Sys2Proof.Machine
end

