-- ==== Sys2Proof/Machine/Mode7.lean ====
section
/-! DEFINITION. The Mode-7 Unit: the settings register and the shared parameter cascade (44_mode7.md R340 to R351). -/

namespace Sys2Proof.Machine

/-- The parameter `P` of the Mode-7 record. -/
def Mode7.param (m : Mode7) : M7Param → BitVec 16
  | .a => m.a
  | .b => m.b
  | .c => m.c
  | .d => m.d
  | .hofs => m.hofs
  | .vofs => m.vofs
  | .x => m.x
  | .y => m.y

/-- The record with the parameter `P` replaced. -/
def Mode7.setParam (m : Mode7) (p : M7Param) (v : BitVec 16) : Mode7 :=
  match p with
  | .a => { m with a := v }
  | .b => { m with b := v }
  | .c => { m with c := v }
  | .d => { m with d := v }
  | .hofs => { m with hofs := v }
  | .vofs => { m with vofs := v }
  | .x => { m with x := v }
  | .y => { m with y := v }

/-- The cascade transition `m7write(P, b)` (R342): the cache is read before it is written. -/
def Mode7.cascade (m : Mode7) (p : M7Param) (b : Byte) : Mode7 :=
  { m.setParam p (b ++ m.cache.extractLsb' 0 8) with cache := b.setWidth 16 }

/-- `m7write(P, b)` on the block. -/
def State.m7write (s : State) (p : M7Param) (b : Byte) : State := s.setM7 (s.m7.cascade p b)

/-- M7SEL (R340): bits 5:2 are ignored; cache and parameters stay. -/
def execM7sel (b : Byte) (s : State) : Reply :=
  (s.setM7 { s.m7 with screenOver := field b 6 2, vFlip := flagBit b 1, hFlip := flagBit b 0 }).written

/-- M7A (R343). -/
def execM7a (b : Byte) (s : State) : Reply := (s.m7write .a b).written

/-- M7B (R344). -/
def execM7b (b : Byte) (s : State) : Reply := (s.m7write .b b).written

/-- M7C (R345). -/
def execM7c (b : Byte) (s : State) : Reply := (s.m7write .c b).written

/-- M7D (R346). -/
def execM7d (b : Byte) (s : State) : Reply := (s.m7write .d b).written

/-- M7X (R347). -/
def execM7x (b : Byte) (s : State) : Reply := (s.m7write .x b).written

/-- M7Y (R348). -/
def execM7y (b : Byte) (s : State) : Reply := (s.m7write .y b).written

end Sys2Proof.Machine
end

