-- ==== Sys2Proof/Machine/Oam.lean ====
section
/-! DEFINITION. The OAM Unit (45_oam.md R360 to R367). -/

namespace Sys2Proof.Machine

/-- `OAM[i]` (R42). -/
def Oam.byteAt (o : Oam) (i : Nat) : Byte := (Memory.read .oam o.bytes i).getD 0x00

/-- `OAM[i] <- b`. -/
def Oam.setByte (o : Oam) (i : Nat) (b : Byte) : Oam := { o with bytes := Memory.write .oam o.bytes i b }

/-- The byte position of the current word, `oamWord * 2`. -/
def Oam.wordPosition (o : Oam) : Nat := o.word.toNat * 2

/-- The current byte position, `oamWord * 2 + oamFlip` (R42). -/
def Oam.position (o : Oam) : Nat := o.wordPosition + o.flip.toNat

/-- `advance()` (R362): `oamWord` wraps from 511 to 0. -/
def Oam.advance (o : Oam) : Oam :=
  if o.flip then { o with flip := false, word := o.word + 1 } else { o with flip := true }

/-- The commit of an odd data write: the latch and the byte, as a 2-byte unit at the current word (R363). -/
def Oam.commit (o : Oam) (b : Byte) : Oam :=
  (o.setByte o.wordPosition o.latch).setByte (o.wordPosition + 1) b

/-- OAMADDL (R360): nothing but `oamAddrReg[7:0]` changes (D21). -/
def execOamaddl (b : Byte) (s : State) : Reply :=
  (s.setOam { s.oam with addrReg := s.oam.addrReg.extractLsb' 8 1 ++ b }).written

/-- OAMADDH (R361): the pointer is reloaded, the parity becomes even; `oamLatch` stays (D24). -/
def execOamaddh (b : Byte) (s : State) : Reply :=
  let a : BitVec 9 := field b 0 1 ++ s.oam.addrReg.extractLsb' 0 8
  (s.setOam { s.oam with addrReg := a, prioRot := flagBit b 7, word := a, flip := false, last := a }).written

/-- OAMDATA (R363): the position is checked before any change (R404). -/
def execOamdata (b : Byte) (s : State) : Reply :=
  if s.oam.flip then
    if s.oam.wordPosition + 1 ≥ Config.oamSize then .fault (.oamOutOfRange s.oam.wordPosition)
    else (s.setOam (s.oam.commit b).advance).written
  else (s.setOam { s.oam with latch := b }.advance).written

/-- OAMDATAREAD (R365): the byte of the OAM array, never the latch; the position is checked first. -/
def execOamdataread (s : State) : Reply :=
  if s.oam.position ≥ Config.oamSize then .fault (.oamOutOfRange s.oam.position)
  else .next ((s.setOam s.oam.advance).answer (.byte (s.oam.byteAt s.oam.position)))

end Sys2Proof.Machine
end

