-- ==== Sys2Proof/Machine/Scroll.lean ====
section
/-! DEFINITION. The Scroll Latch Chain (42_scroll_latch.md R290 to R303): two latches shared by every layer. -/

namespace Sys2Proof.Machine

/-- The 10-bit value of a horizontal write: `{b[1:0], 8'h00} | (latch1 & 0xF8) | (latch2 & 0x07)` (R290). -/
def hValue (b latch1 latch2 : Byte) : BitVec 10 := field b 0 2 ++ ((latch1 &&& 0xF8) ||| (latch2 &&& 0x07))

/-- The 10-bit value of a vertical write: `{b[1:0], 8'h00} | latch1` (R291). -/
def vValue (b latch1 : Byte) : BitVec 10 := field b 0 2 ++ latch1

/-- The horizontal transition `hWrite(n, b)` (R290): both latches take the byte. -/
def State.hWrite (s : State) (n : Fin 4) (b : Byte) : State :=
  (s.setLayer n { s.layer n with hScroll := hValue b s.latch1 s.latch2 }).setLatches b b

/-- The vertical transition `vWrite(n, b)` (R291): `latch2` is unchanged. -/
def State.vWrite (s : State) (n : Fin 4) (b : Byte) : State :=
  (s.setLayer n { s.layer n with vScroll := vValue b s.latch1 }).setLatches b s.latch2

/-- BG1HOFS (R292): the same byte also enters the Mode-7 cascade (D40). -/
def execBg1hofs (b : Byte) (s : State) : Reply := ((s.hWrite 0 b).m7write .hofs b).written

/-- BG1VOFS (R293): the same byte also enters the Mode-7 cascade. -/
def execBg1vofs (b : Byte) (s : State) : Reply := ((s.vWrite 0 b).m7write .vofs b).written

/-- BG2HOFS (R294). -/
def execBg2hofs (b : Byte) (s : State) : Reply := (s.hWrite 1 b).written

/-- BG2VOFS (R295). -/
def execBg2vofs (b : Byte) (s : State) : Reply := (s.vWrite 1 b).written

/-- BG3HOFS (R296). -/
def execBg3hofs (b : Byte) (s : State) : Reply := (s.hWrite 2 b).written

/-- BG3VOFS (R297). -/
def execBg3vofs (b : Byte) (s : State) : Reply := (s.vWrite 2 b).written

/-- BG4HOFS (R298). -/
def execBg4hofs (b : Byte) (s : State) : Reply := (s.hWrite 3 b).written

/-- BG4VOFS (R299). -/
def execBg4vofs (b : Byte) (s : State) : Reply := (s.vWrite 3 b).written

end Sys2Proof.Machine
end

