-- ==== Sys2Proof/Machine/Tile.lean ====
section
/-! DEFINITION. Tilemap and tile addressing (43_tile_addressing.md R310 to R318). Both queries write no state of the
block; TILE makes two VRAM reads. -/

namespace Sys2Proof.Machine

/-- The quadrant index of a tile coordinate (R310). -/
def quadrant (screenSize : BitVec 2) (x y : Nat) : Nat :=
  (if screenSize.getLsbD 0 ∧ x % 64 ≥ 32 then 1 else 0) +
  (if screenSize.getLsbD 1 ∧ y % 64 ≥ 32 then (if screenSize.getLsbD 0 then 2 else 1) else 0)

/-- `tilemapAddress` of a layer's record, a natural, not reduced (R311, R312). -/
def tilemapAddress (r : BgRecord) (x y : Nat) : Nat :=
  ((r.tilemapBase.toNat + quadrant r.screenSize x y) <<< 11) + ((y % 64 % 32) <<< 6) + ((x % 64 % 32) <<< 1)

/-- `BYTES_PER_TILE(d)` (R315, D19). -/
def bytesPerTile (depth : Nat) : Nat := 8 * depth

/-- The tile record that an entry of a layer of color depth `d` describes (R313, R314, R316). -/
def tileRecord (r : BgRecord) (d : Nat) (entry : BitVec 16) : TileRecord :=
  let dim := if r.tileSize16 then 16 else 8
  { palette := entry.extractLsb' 10 3
    dataAddr := (r.tilesetBase.toNat <<< 13) + (entry.extractLsb' 0 10).toNat * bytesPerTile d
    depth := d
    hFlip := entry.getLsbD 14
    vFlip := entry.getLsbD 15
    priority := entry.getLsbD 13
    width := dim
    height := dim }

/-- The two VRAM reads of a tilemap entry, the low byte first (R89, R313, D34). -/
def State.entryAt (s : State) (a : Nat) : BitVec 16 × State :=
  let (e0, s0) := s.vramRead a
  let (e1, s1) := s0.vramRead (a + 1)
  (e1 ++ e0, s1)

/-- TMADDR (R311): total for every layer and every mode (D29). -/
def execTmaddr (layer : Fin 4) (x y : Nat) (s : State) : Reply :=
  .next (s.answer (.address (tilemapAddress (s.layer layer) x y)))

/-- TILE (R313): the color depth is checked before any VRAM read (R404, D29). -/
def execTile (layer : Fin 4) (x y : Nat) (s : State) : Reply :=
  match colorDepth s.screenMode layer with
  | none => .fault (.configurationError s.screenMode layer)
  | some d =>
    let (entry, t) := s.entryAt (tilemapAddress (s.layer layer) x y)
    .next (t.answer (.tile (tileRecord (s.layer layer) d entry)))

end Sys2Proof.Machine
end

