-- ==== Sys2Proof/Machine/Dispatch.lean ====
section
/-! DEFINITION. One arm per operation: what `exec` does with it is its own definition in its family's file. -/

namespace Sys2Proof.Machine

/-- One operation of the block (00_scope.md R12): its next state, the fault it ends in, or a refusal. -/
def exec (i : Instr) (s : State) : Host.Outcome State Fault Refusal :=
  match i with
  | .abs op16 => Sys2Proof.Machine.execAbs op16 s
  | .absx op16 => Sys2Proof.Machine.execAbsx op16 s
  | .absy op16 => Sys2Proof.Machine.execAbsy op16 s
  | .dp op8 => Sys2Proof.Machine.execDp op8 s
  | .dpx op8 => Sys2Proof.Machine.execDpx op8 s
  | .dpy op8 => Sys2Proof.Machine.execDpy op8 s
  | .dpind op8 => Sys2Proof.Machine.execDpind op8 s
  | .dpxind op8 => Sys2Proof.Machine.execDpxind op8 s
  | .dpindy op8 => Sys2Proof.Machine.execDpindy op8 s
  | .dpindl op8 => Sys2Proof.Machine.execDpindl op8 s
  | .dpindly op8 => Sys2Proof.Machine.execDpindly op8 s
  | .oamaddl b => Sys2Proof.Machine.execOamaddl b s
  | .oamaddh b => Sys2Proof.Machine.execOamaddh b s
  | .oamdata b => Sys2Proof.Machine.execOamdata b s
  | .bgmode b => Sys2Proof.Machine.execBgmode b s
  | .mosaic b => Sys2Proof.Machine.execMosaic b s
  | .bg1sc b => Sys2Proof.Machine.execBg1sc b s
  | .bg2sc b => Sys2Proof.Machine.execBg2sc b s
  | .bg3sc b => Sys2Proof.Machine.execBg3sc b s
  | .bg4sc b => Sys2Proof.Machine.execBg4sc b s
  | .bg12nba b => Sys2Proof.Machine.execBg12nba b s
  | .bg34nba b => Sys2Proof.Machine.execBg34nba b s
  | .bg1hofs b => Sys2Proof.Machine.execBg1hofs b s
  | .bg1vofs b => Sys2Proof.Machine.execBg1vofs b s
  | .bg2hofs b => Sys2Proof.Machine.execBg2hofs b s
  | .bg2vofs b => Sys2Proof.Machine.execBg2vofs b s
  | .bg3hofs b => Sys2Proof.Machine.execBg3hofs b s
  | .bg3vofs b => Sys2Proof.Machine.execBg3vofs b s
  | .bg4hofs b => Sys2Proof.Machine.execBg4hofs b s
  | .bg4vofs b => Sys2Proof.Machine.execBg4vofs b s
  | .m7sel b => Sys2Proof.Machine.execM7sel b s
  | .m7a b => Sys2Proof.Machine.execM7a b s
  | .m7b b => Sys2Proof.Machine.execM7b b s
  | .m7c b => Sys2Proof.Machine.execM7c b s
  | .m7d b => Sys2Proof.Machine.execM7d b s
  | .m7x b => Sys2Proof.Machine.execM7x b s
  | .m7y b => Sys2Proof.Machine.execM7y b s
  | .w12sel b => Sys2Proof.Machine.execW12sel b s
  | .w34sel b => Sys2Proof.Machine.execW34sel b s
  | .wbglog b => Sys2Proof.Machine.execWbglog b s
  | .tm b => Sys2Proof.Machine.execTm b s
  | .ts b => Sys2Proof.Machine.execTs b s
  | .tmw b => Sys2Proof.Machine.execTmw b s
  | .tsw b => Sys2Proof.Machine.execTsw b s
  | .cgadsub b => Sys2Proof.Machine.execCgadsub b s
  | .oamdataread => Sys2Proof.Machine.execOamdataread s
  | .tmaddr layer x y => Sys2Proof.Machine.execTmaddr layer x y s
  | .tile layer x y => Sys2Proof.Machine.execTile layer x y s
  | .validbg mode => Sys2Proof.Machine.execValidbg mode s
  | .cdepth mode layer => Sys2Proof.Machine.execCdepth mode layer s

end Sys2Proof.Machine
end

