-- ==== Sys2Proof/Machine/Interface.lean ====
section
/-! DEFINITION. The block's interfaces: taking the next input, refusing a request no interface defines or that comes
from another machine (R402), and returning an operation's outcome to its caller (R406, R407). -/

namespace Sys2Proof.Machine

/-- What the block does with the next input. -/
inductive Intake where
  /-- Nothing waits: the block executes nothing of its own (R431). -/
  | idle
  /-- The input is dealt with, leaving this state. -/
  | done (s : State)
  /-- The operation to run, and the state it runs in. -/
  | run (i : Instr) (s : State)
deriving DecidableEq, Repr

/-- A request: refusal is decided before the operation starts (R404), the use of the instance by another machine or
thread among the reasons (R8, R402). -/
def acceptRequest (s : State) (caller : Nat) (r : Request) : Intake :=
  if caller = s.owner then
    match decode r with
    | .ok i => .run i s
    | .error why => .done (s.reportRefusal (.undefinedRequest why))
  else .done (s.reportRefusal (.sharedUse caller))

/-- Take the next input from the interfaces, in the order they came (R95). -/
def takeInput (s : State) : Intake :=
  match s.inputs with
  | [] => .idle
  | .request caller r :: rest => acceptRequest (s.setInputs rest) caller r
  | .registers regs :: rest => .done ((s.setInputs rest).setRegs regs)
  | .busCell a v :: rest => .done ((s.setInputs rest).setBus (Memory.put .bus s.bus a.toNat v))
  | .vramCell a v :: rest => .done ((s.setInputs rest).setVram (Memory.put .vram s.vram (s.vramAddr a) v))

/-- Return an operation's outcome to its caller: a fault is its result and is recorded, the block's state being the
state before the operation (R406, R407). -/
def settle (before : State) (outcome : Reply) : Reply :=
  match outcome with
  | .next t => .next t
  | .fault f => .next (before.reportFault f)
  | .refused r => .refused r

/-- The state with a request put before what already waits, from the machine that owns the instance. -/
def State.offer (s : State) (r : Request) : State := s.setInputs (.request s.owner r :: s.inputs)

end Sys2Proof.Machine
end

