-- ==== Sys2Proof/Machine/Step.lean ====
section
/-! DEFINITION. One step: the next input is taken; a request that the interfaces define runs as one operation. -/

namespace Sys2Proof.Machine

/-- One step of the block. With nothing waiting it changes nothing (R431, R444). -/
def step (s : State) : Host.Outcome State Fault Refusal :=
  match takeInput s with
  | .idle => .next s
  | .done t => .next t
  | .run i t => settle t (exec i t)

/-- `s` with the request that a word of spec/opcode_table.json stands for waiting first on its interface (assumption
log 8). -/
def State.withFetchWord (s : State) (nbits w : Nat) : State := s.offer (tableRequest nbits w)

end Sys2Proof.Machine
end

