-- ==== Sys2Proof/Safety.lean ====
section
/-! DEFINITION. What a sound state and a clean run are, and the terms the statements use: which parts of two states
agree, the operations of one shape, and the spec's arithmetic written on natural numbers, apart from the model's own
bit-vector definitions. -/

namespace Sys2Proof

open Sys2Proof.Machine

/-! ### Sound states and runs -/

/-- The invariant of the block: memories in canonical form, R39's bound on `m7cache`, the `priority` fields that no
operation writes at their construction value (R251), and one draw for each read recorded. -/
structure Safety.Inv (s : State) : Prop where
  bus : Memory.wf .bus Config.busSize s.bus
  vram : Memory.wf .vram s.params.vramSize s.vram
  oam : Memory.wf .oam Config.oamSize s.oam.bytes
  vramSize : 0 < s.params.vramSize
  cache : s.m7.cache.toNat < 0x100
  priority : ∀ n : Fin 4, n ≠ 2 → (s.layer n).priority = false
  draws : s.draws = s.busLog.length + s.vramLog.length
  vramLog : ∀ r ∈ s.vramLog, r.1 < s.params.vramSize

/-- A run is clean when it recorded no fault and no refusal (R444). -/
def Safety.Clean (s : State) : Prop := s.faults = [] ∧ s.refusals = []

/-- Operations in the order given, up to the first that does not answer a next state (R95). -/
def Safety.runOps : List Instr → State → Reply
  | [], s => .next s
  | i :: is, s =>
    match exec i s with
    | .next t => Safety.runOps is t
    | .fault f => .fault f
    | .refused r => .refused r

/-! ### Parts of two states that agree -/

/-- The register file, the parameters and the owner. -/
def SameRegisters (s t : State) : Prop := t.regs = s.regs ∧ t.params = s.params ∧ t.owner = s.owner

/-- Every background record, the screen mode and the mosaic size. -/
def SameBackground (s t : State) : Prop :=
  (∀ n, t.layer n = s.layer n) ∧ t.screenMode = s.screenMode ∧ t.mosaicSize = s.mosaicSize

/-- Both scroll latches. -/
def SameLatches (s t : State) : Prop := t.latch1 = s.latch1 ∧ t.latch2 = s.latch2

/-- Every Mode-7 parameter, the cache and the settings. -/
def SameMode7 (s t : State) : Prop := t.m7 = s.m7

/-- Every OAM register. -/
def SameOamRegisters (s t : State) : Prop :=
  t.oam.addrReg = s.oam.addrReg ∧ t.oam.prioRot = s.oam.prioRot ∧ t.oam.word = s.oam.word ∧
  t.oam.flip = s.oam.flip ∧ t.oam.latch = s.oam.latch ∧ t.oam.last = s.oam.last

/-- Every byte of OAM. -/
def SameOamBytes (s t : State) : Prop := ∀ i, t.oam.byteAt i = s.oam.byteAt i

/-- Every byte of the Memory Bus and of video memory reads as before. -/
def SameMemory (s t : State) : Prop :=
  (∀ a, Memory.read .bus t.bus a = Memory.read .bus s.bus a) ∧
  (∀ a, Memory.read .vram t.vram a = Memory.read .vram s.vram a)

/-- No Memory Bus read and no VRAM read is made. -/
def SameReads (s t : State) : Prop := t.busLog = s.busLog ∧ t.vramLog = s.vramLog

/-- What waits on the interfaces, and the faults and refusals recorded. -/
def SameInterface (s t : State) : Prop :=
  t.inputs = s.inputs ∧ t.faults = s.faults ∧ t.refusals = s.refusals

/-- Only the result and the external reads may differ. -/
def OnlyReads (s t : State) : Prop :=
  SameRegisters s t ∧ SameBackground s t ∧ SameLatches s t ∧ SameMode7 s t ∧ SameOamRegisters s t ∧
  SameOamBytes s t ∧ SameMemory s t ∧ SameInterface s t

/-- Only the result may differ. -/
def OnlyResult (s t : State) : Prop := OnlyReads s t ∧ SameReads s t

/-- Only the result, the background records, the screen mode and the mosaic size may differ. -/
def OnlyBackground (s t : State) : Prop :=
  SameRegisters s t ∧ SameLatches s t ∧ SameMode7 s t ∧ SameOamRegisters s t ∧ SameOamBytes s t ∧
  SameMemory s t ∧ SameReads s t ∧ SameInterface s t

/-- Only the result, one layer's record and the latches may differ. -/
def OnlyScroll (n : Fin 4) (s t : State) : Prop :=
  SameRegisters s t ∧ (∀ m, m ≠ n → t.layer m = s.layer m) ∧ t.screenMode = s.screenMode ∧
  t.mosaicSize = s.mosaicSize ∧ SameOamRegisters s t ∧ SameOamBytes s t ∧ SameMemory s t ∧ SameReads s t ∧
  SameInterface s t

/-- Only the result and the Mode-7 record may differ. -/
def OnlyMode7 (s t : State) : Prop :=
  SameRegisters s t ∧ SameBackground s t ∧ SameLatches s t ∧ SameOamRegisters s t ∧ SameOamBytes s t ∧
  SameMemory s t ∧ SameReads s t ∧ SameInterface s t

/-- Only the result and the OAM Unit may differ. -/
def OnlyOam (s t : State) : Prop :=
  SameRegisters s t ∧ SameBackground s t ∧ SameLatches s t ∧ SameMode7 s t ∧ SameMemory s t ∧ SameReads s t ∧
  SameInterface s t

/-! ### The spec's arithmetic on naturals -/

/-- `idx` (R23): the index value added under the emulation flag. -/
def indexValue (e : Bool) (forced : Byte) (v : BitVec 16) : Nat :=
  if e then forced.toNat * 0x100 + v.toNat % 0x100 else v.toNat

/-- `dpByte` (R206): the bank-0 address of byte `k` of a direct-page location. -/
def directPageAddress (r : RegFile) (op8 i k : Nat) : Nat :=
  if r.e = true ∧ r.d.toNat % 0x100 = 0 then r.d.toNat / 0x100 * 0x100 + (op8 + i % 0x100 + k) % 0x100
  else (r.d.toNat + op8 + i + k) % 0x10000

/-- The color depths of a mode's layers from layer 0 up, as the source lists them (R271). -/
def depthLists : List (List Nat) := [[2, 2, 2, 2], [4, 4, 2], [4, 4], [8, 4], [8, 4], [4, 2], [4], [8]]

/-- The color depth the lists give a mode and layer, if any (R271). -/
def listedDepth (mode : BitVec 3) (layer : Fin 4) : Option Nat := depthLists[mode.toNat]?.bind (·[layer.val]?)

/-- The quadrant index by size code (the table of R310). -/
def quadrantIndex (code x y : Nat) : Nat :=
  match code with
  | 1 => x % 64 / 32
  | 2 => y % 64 / 32
  | 3 => x % 64 / 32 + 2 * (y % 64 / 32)
  | _ => 0

/-! ### Operations of one shape -/

/-- The Mode-7 parameter write that puts a byte into the cascade for `p` (R342, R349). -/
def cascadeWrite : M7Param → Byte → Instr
  | .a => .m7a
  | .b => .m7b
  | .c => .m7c
  | .d => .m7d
  | .hofs => .bg1hofs
  | .vofs => .bg1vofs
  | .x => .m7x
  | .y => .m7y

/-- The horizontal scroll register of a layer (R292, R294, R296, R298). -/
def hScrollWrite (n : Fin 4) : Byte → Instr :=
  match n with
  | 0 => .bg1hofs
  | 1 => .bg2hofs
  | 2 => .bg3hofs
  | 3 => .bg4hofs

/-- The vertical scroll register of a layer (R293, R295, R297, R299). -/
def vScrollWrite (n : Fin 4) : Byte → Instr :=
  match n with
  | 0 => .bg1vofs
  | 1 => .bg2vofs
  | 2 => .bg3vofs
  | 3 => .bg4vofs

/-- The operation is a scroll register write, of any layer and direction (R292 to R299). -/
def IsScrollWrite (i : Instr) : Prop := ∃ n b, i = hScrollWrite n b ∨ i = vScrollWrite n b

/-- The operation puts a byte into the Mode-7 cascade, for any parameter (R342, R349). -/
def IsCascadeWrite (i : Instr) : Prop := ∃ p b, i = cascadeWrite p b

/-- How many Memory Bus reads an operation makes (R82, R212, R213). -/
def busReadCount : Instr → Nat
  | .dpind _ | .dpxind _ | .dpindy _ => 2
  | .dpindl _ | .dpindly _ => 3
  | _ => 0

/-- How many VRAM reads an operation makes when it ends without a fault (R313). -/
def vramReadCount : Instr → Nat
  | .tile _ _ _ => 2
  | _ => 0

/-- The operation is one of the two OAM data operations (R363, R365). -/
def IsOamAccess (i : Instr) : Prop := (∃ b, i = .oamdata b) ∨ i = .oamdataread

/-! ### Shapes of statements -/

/-- The write of a background register at `addr` is the operation `mk` (R110), completes from every state and returns
nothing; each layer's record and the two shared fields become what `record`, `mode` and `mosaic` say; nothing else
changes. -/
def BackgroundWrite (addr : BitVec 16) (mk : Byte → Instr) (record : State → Byte → Fin 4 → BgRecord → Prop)
    (mode : State → Byte → Nat) (mosaic : State → Byte → Nat) : Prop :=
  ∀ (b : Byte) (s : State), decode (.mmioWrite addr b) = .ok (mk b) ∧ ∃ t, exec (mk b) s = .next t ∧
    (∀ n, record s b n (t.layer n)) ∧ t.screenMode.toNat = mode s b ∧ t.mosaicSize.toNat = mosaic s b ∧
    t.result = .nothing ∧ OnlyBackground s t

/-- A background register that leaves the screen mode and the mosaic size alone. -/
def LayerWrite (addr : BitVec 16) (mk : Byte → Instr) (record : State → Byte → Fin 4 → BgRecord → Prop) : Prop :=
  BackgroundWrite addr mk record (fun s _ => s.screenMode.toNat) (fun s _ => s.mosaicSize.toNat)

/-- The record of a tilemap register's layer `layer` (R253 to R256): base and size from the byte, the rest as it was. -/
def TilemapRecord (layer : Fin 4) (s : State) (b : Byte) (n : Fin 4) (r : BgRecord) : Prop :=
  if n = layer then
    r.tilemapBase.toNat = b.toNat / 4 ∧ r.screenSize.toNat = b.toNat % 4 ∧
    r = { s.layer n with tilemapBase := r.tilemapBase, screenSize := r.screenSize }
  else r = s.layer n

/-- The records of a tileset register (R257, R258): the low nibble to layer `low`, the high nibble to layer `high`. -/
def TilesetRecord (low high : Fin 4) (s : State) (b : Byte) (n : Fin 4) (r : BgRecord) : Prop :=
  r = { s.layer n with tilesetBase := r.tilesetBase } ∧
  r.tilesetBase.toNat =
    if n = low then b.toNat % 16 else if n = high then b.toNat / 16 else (s.layer n).tilesetBase.toNat

/-- The records of a window-mask register (R259, R260). -/
def WindowRecord (low high : Fin 4) (s : State) (b : Byte) (n : Fin 4) (r : BgRecord) : Prop :=
  r = { s.layer n with win1Mask := r.win1Mask, win2Mask := r.win2Mask } ∧
  (r.win1Mask.toNat, r.win2Mask.toNat) =
    if n = low then (b.toNat % 4, b.toNat / 4 % 4)
    else if n = high then (b.toNat / 16 % 4, b.toNat / 64)
    else ((s.layer n).win1Mask.toNat, (s.layer n).win2Mask.toNat)

/-- A horizontal scroll register at `addr` for layer `n` (R290): the value, the latches, nothing else but what
`mode7` says of the Mode-7 record. -/
def HorizontalWrite (addr : BitVec 16) (n : Fin 4) (mode7 : Mode7 → Byte → Mode7 → Prop) : Prop :=
  ∀ (b : Byte) (s : State), decode (.mmioWrite addr b) = .ok (hScrollWrite n b) ∧
    ∃ t, exec (hScrollWrite n b) s = .next t ∧
      (t.layer n).hScroll.toNat = b.toNat % 4 * 256 + s.latch1.toNat / 8 * 8 + s.latch2.toNat % 8 ∧
      t.layer n = { s.layer n with hScroll := (t.layer n).hScroll } ∧
      t.latch1 = b ∧ t.latch2 = b ∧ mode7 s.m7 b t.m7 ∧ t.result = .nothing ∧ OnlyScroll n s t

/-- A vertical scroll register at `addr` for layer `n` (R291): `latch2` is unchanged. -/
def VerticalWrite (addr : BitVec 16) (n : Fin 4) (mode7 : Mode7 → Byte → Mode7 → Prop) : Prop :=
  ∀ (b : Byte) (s : State), decode (.mmioWrite addr b) = .ok (vScrollWrite n b) ∧
    ∃ t, exec (vScrollWrite n b) s = .next t ∧
      (t.layer n).vScroll.toNat = b.toNat % 4 * 256 + s.latch1.toNat ∧
      t.layer n = { s.layer n with vScroll := (t.layer n).vScroll } ∧
      t.latch1 = b ∧ t.latch2 = s.latch2 ∧ mode7 s.m7 b t.m7 ∧ t.result = .nothing ∧ OnlyScroll n s t

/-- The Mode-7 record is not touched. -/
def KeepsMode7 (before : Mode7) (_b : Byte) (after : Mode7) : Prop := after = before

/-- The cascade transition for `p` (R342): the parameter takes the byte and the cache's low byte, the cache takes the
byte, the other parameters and the settings stay. -/
def CascadesInto (p : M7Param) (before : Mode7) (b : Byte) (after : Mode7) : Prop :=
  (after.param p).toNat = b.toNat * 256 + before.cache.toNat % 256 ∧ after.cache.toNat = b.toNat ∧
  (∀ q, q ≠ p → after.param q = before.param q) ∧ after.screenOver = before.screenOver ∧
  after.hFlip = before.hFlip ∧ after.vFlip = before.vFlip

/-- A Mode-7 parameter register at `addr` (R343 to R348). -/
def ParameterWrite (addr : BitVec 16) (p : M7Param) : Prop :=
  ∀ (b : Byte) (s : State), decode (.mmioWrite addr b) = .ok (cascadeWrite p b) ∧
    ∃ t, exec (cascadeWrite p b) s = .next t ∧ CascadesInto p s.m7 b t.m7 ∧ t.result = .nothing ∧ OnlyMode7 s t

/-- A byte that the Memory Bus may answer at an address: the one fixed there, any where none is (U10). -/
def BusMayAnswer (s : State) (a : Addr24) (b : Byte) : Prop := ∀ v, Memory.read .bus s.bus a.toNat = some v → b = v

/-- A byte that the VRAM port may answer at a reduced address (U11). -/
def VramMayAnswer (s : State) (a : Nat) (b : Byte) : Prop := ∀ v, Memory.read .vram s.vram a = some v → b = v

/-- An addressing mode that returns an address pair (R200): it completes from every state, the low address is
`low s`, the high address the next one as `high s` says, and nothing else changes. -/
def PairMode (request : Request) (i : Instr) (low high : State → Nat) : Prop :=
  decode request = .ok i ∧ ∀ s, ∃ t hi lo, exec i s = .next t ∧ t.result = .pair hi lo ∧ lo.toNat = low s ∧
    hi.toNat = high s ∧ OnlyResult s t

/-- An indirect mode that reads a 16-bit pointer (R212): two bus reads, low byte first, at the direct-page location
with index `index s`; the result is `value s p` for the pointer `p` read; nothing else changes. -/
def ShortPointerMode (request : Request) (i : Instr) (op8 : Byte) (index : State → Nat)
    (value : State → Nat → Nat) : Prop :=
  decode request = .ok i ∧ ∀ s, ∃ t a0 a1 b0 b1 p, exec i s = .next t ∧
    a0.toNat = directPageAddress s.regs op8.toNat (index s) 0 ∧
    a1.toNat = directPageAddress s.regs op8.toNat (index s) 1 ∧
    t.busLog = s.busLog ++ [(a0, b0), (a1, b1)] ∧ BusMayAnswer s a0 b0 ∧ BusMayAnswer s a1 b1 ∧
    t.result = .pointer p ∧ p.toNat = value s (b1.toNat * 0x100 + b0.toNat) ∧
    t.vramLog = s.vramLog ∧ OnlyReads s t

/-- A long indirect mode (R213): three bus reads, the bank byte last. -/
def LongPointerMode (request : Request) (i : Instr) (op8 : Byte) (value : State → Nat → Nat) : Prop :=
  decode request = .ok i ∧ ∀ s, ∃ t a0 a1 a2 b0 b1 b2 p, exec i s = .next t ∧
    a0.toNat = directPageAddress s.regs op8.toNat 0 0 ∧ a1.toNat = directPageAddress s.regs op8.toNat 0 1 ∧
    a2.toNat = directPageAddress s.regs op8.toNat 0 2 ∧
    t.busLog = s.busLog ++ [(a0, b0), (a1, b1), (a2, b2)] ∧
    BusMayAnswer s a0 b0 ∧ BusMayAnswer s a1 b1 ∧ BusMayAnswer s a2 b2 ∧
    t.result = .pointer p ∧ p.toNat = value s (b2.toNat * 0x10000 + b1.toNat * 0x100 + b0.toNat) ∧
    t.vramLog = s.vramLog ∧ OnlyReads s t

end Sys2Proof
end

