-- ==== Sys2Proof/Certificates/Slice0/Obligations.lean ====
section
/-! DEFINITION. The statements for the provers. Each docstring names the rules it formalises. -/

open Sys2Proof Sys2Proof.Machine

/-! ### Encoding and the step -/

/-- R101, R110, R120, R122: the encoder and the decoder agree in both directions, every operand at every value. -/
def Obligations.DecodeAndEncodeAgreeForEveryOperation : Prop :=
  (∀ i, decode (encode i) = .ok i) ∧ ∀ r i, decode r = .ok i → encode i = r

/-- R103, R111, R120, R122: the decoder accepts exactly the requests that the interfaces define. That a query with a wrong
number of arguments is none of them is the model's choice: no rule names it (assumption log 7). -/
def Obligations.DecoderAcceptsExactlyTheDefinedRequests : Prop :=
  ∀ r : Request, r.WellFormed = true ↔ ∃ i, decode r = .ok i

/-- R101, R105, R110, R120: request tuples of the spec's programs P1 to P4 decode to the operations they stand for,
one at least of each family. -/
def Obligations.SpecTuplesDecodeToTheirOperations : Prop :=
  decode (.are 0x0 [0xFF, 0xFF]) = .ok (.abs 0xFFFF) ∧ decode (.are 0x1 [0xFE, 0xFF]) = .ok (.absx 0xFFFE) ∧
  decode (.are 0x4 [0xFF]) = .ok (.dpx 0xFF) ∧ decode (.are 0x6 [0x10]) = .ok (.dpind 0x10) ∧
  decode (.are 0xA [0x40]) = .ok (.dpindly 0x40) ∧ decode (.mmioWrite 0x2105 0x01) = .ok (.bgmode 0x01) ∧
  decode (.mmioWrite 0x210D 0x80) = .ok (.bg1hofs 0x80) ∧ decode (.mmioWrite 0x211B 0x01) = .ok (.m7a 0x01) ∧
  decode (.mmioWrite 0x2103 0x80) = .ok (.oamaddh 0x80) ∧ decode (.mmioRead 0x2138) = .ok .oamdataread ∧
  decode (.query 1 [0, 3, 2]) = .ok (.tile 0 3 2) ∧ decode (.query 3 [1, 2]) = .ok (.cdepth 1 2)

/-- R102, R87: two operand bytes make an `op16` with the first as bits 7:0; one byte is an `op8`. -/
def Obligations.OperandBytesAssembleLittleEndian : Prop :=
  ∀ first second : Byte,
    (∃ op : BitVec 16, op.toNat = second.toNat * 256 + first.toNat ∧
      decode (.are 0x0 [first, second]) = .ok (.abs op) ∧ decode (.are 0x1 [first, second]) = .ok (.absx op) ∧
      decode (.are 0x2 [first, second]) = .ok (.absy op)) ∧
    decode (.are 0x3 [first]) = .ok (.dp first) ∧ decode (.are 0x4 [first]) = .ok (.dpx first) ∧
    decode (.are 0x5 [first]) = .ok (.dpy first) ∧ decode (.are 0x6 [first]) = .ok (.dpind first) ∧
    decode (.are 0x7 [first]) = .ok (.dpxind first) ∧ decode (.are 0x8 [first]) = .ok (.dpindy first) ∧
    decode (.are 0x9 [first]) = .ok (.dpindl first) ∧ decode (.are 0xA [first]) = .ok (.dpindly first)

/-- R7, R12, R406, R407: when the request that waits first decodes to an operation, the step is that operation in the
state without the request; a fault it ends in is returned to the caller and recorded, the block otherwise unchanged
(no operation ends in a refusal: `OnlyTheNamedOperationsCanFail`). -/
def Obligations.StepRunsTheDecodedOperation : Prop :=
  ∀ (s : State) (r : Request) (i : Instr) (rest : List Input),
    s.inputs = .request s.owner r :: rest → decode r = .ok i →
    (∀ t, exec i { s with inputs := rest } = .next t → step s = .next t) ∧
    (∀ f, exec i { s with inputs := rest } = .fault f →
      step s = .next { s with inputs := rest, result := .fault f, faults := s.faults ++ [f] })

/-- R103, R111, R120, R122, R402: a request that no interface defines is refused with cause code 3 and changes nothing but the
result returned and the record of refusals. Two clauses are the model's choice: that a query with a wrong number of
arguments is such a request (assumption log 7), and what becomes of one from a caller that is not the owner, which is
refused for that reason (assumption log 6). -/
def Obligations.UndefinedRequestsAreRefusedWithoutEffect : Prop :=
  ∀ (s : State) (caller : Nat) (r : Request) (rest : List Input),
    s.inputs = .request caller r :: rest → r.WellFormed = false →
    ∃ q : Refusal, q.causeCode = 3 ∧
      step s = .next { s with inputs := rest, result := .refusal q, refusals := s.refusals ++ [q] }

/-- R8, R402, D33: a request from another machine or thread than the one that owns the instance is refused with cause code
3 and changes nothing else. That the state names its owner and a request its caller is the model's choice (assumption
log 6). -/
def Obligations.ForeignRequestsAreRefusedWithoutEffect : Prop :=
  ∀ (s : State) (caller : Nat) (r : Request) (rest : List Input),
    s.inputs = .request caller r :: rest → caller ≠ s.owner →
    step s = .next { s with inputs := rest, result := .refusal (.sharedUse caller),
                            refusals := s.refusals ++ [.sharedUse caller] } ∧
    (Refusal.sharedUse caller).causeCode = 3

/-- R27, R80, R96, R431: with nothing waiting the block does nothing; a change of the register file, of a Memory Bus
byte or of a video memory byte from outside changes that alone, and later reads see it. How such changes reach the
block is the model's choice (assumption log 4). -/
def Obligations.OutsideChangesReachLaterRequests : Prop :=
  ∀ s : State,
    (s.inputs = [] → step s = .next s) ∧
    (∀ r rest, s.inputs = .registers r :: rest → step s = .next { s with inputs := rest, regs := r }) ∧
    (∀ a v rest, s.inputs = .busCell a v :: rest →
      ∃ t, step s = .next t ∧ t = { s with inputs := rest, bus := t.bus } ∧
        Memory.read .bus t.bus a.toNat = v ∧
        ∀ n, n ≠ a.toNat → Memory.read .bus t.bus n = Memory.read .bus s.bus n) ∧
    (∀ a v rest, s.inputs = .vramCell a v :: rest →
      ∃ t, step s = .next t ∧ t = { s with inputs := rest, vram := t.vram } ∧
        Memory.read .vram t.vram (a % s.params.vramSize) = v ∧
        ∀ n, n ≠ a % s.params.vramSize → Memory.read .vram t.vram n = Memory.read .vram s.vram n)

/-- R39, R84, R85, R251: every step keeps the invariant. -/
def Obligations.EveryStepKeepsTheInvariant : Prop :=
  ∀ s t : State, Safety.Inv s → step s = .next t → Safety.Inv t

/-- The invariant holds at reset, which is construction with the default parameters and owner 0 (assumption logs 2 and
6), and for every choice of a block's owner and of parameters with some video memory. -/
def Obligations.ConstructionMeetsTheInvariant : Prop :=
  State.reset = State.construct {} 0 ∧ Safety.Inv State.reset ∧
    ∀ (p : Params) (owner : Nat), 0 < p.vramSize → Safety.Inv (State.construct p owner)

/-- R48: at construction every field of the block is zero, every byte of OAM included, for every owner and parameters. -/
def Obligations.ConstructionZeroesEveryField : Prop :=
  ∀ (p : Params) (owner : Nat),
    (∀ n, (State.construct p owner).layer n = BgRecord.mk false false false 0 0 0 0 0 0 0 0 false false false false false) ∧
    (State.construct p owner).screenMode = 0 ∧ (State.construct p owner).mosaicSize = 0 ∧
    (State.construct p owner).latch1 = 0 ∧ (State.construct p owner).latch2 = 0 ∧
    (State.construct p owner).m7 = Mode7.mk 0 0 0 0 0 0 0 0 0 0 false false ∧
    (∀ i, (State.construct p owner).oam.byteAt i = 0) ∧ (State.construct p owner).oam.addrReg = 0 ∧
    (State.construct p owner).oam.word = 0 ∧ (State.construct p owner).oam.last = 0 ∧
    (State.construct p owner).oam.prioRot = false ∧ (State.construct p owner).oam.flip = false ∧
    (State.construct p owner).oam.latch = 0

/-! ### Outcomes -/

/-- R403, R400, R401: only CDEPTH and TILE end in ConfigurationError, only OAMDATA and OAMDATAREAD in OamOutOfRange, and
no operation ends in a refusal: every other operation always succeeds. -/
def Obligations.OnlyTheNamedOperationsCanFail : Prop :=
  ∀ (i : Instr) (s : State),
    (∃ t, exec i s = .next t) ∨
    (∃ mode layer, exec i s = .fault (.configurationError mode layer) ∧
      (i = .cdepth mode layer ∨ (mode = s.screenMode ∧ ∃ x y, i = .tile layer x y))) ∨
    (∃ p, exec i s = .fault (.oamOutOfRange p) ∧ 544 ≤ p ∧ IsOamAccess i)

/-- R442: every operation ends, each with a bounded number of reads: ARE requests make at most three bus reads, TILE two
VRAM reads, MMIO operations none. R400, R401, R404: an operation that fails makes none. That every STEP answers a next
state, the idle one, a change from outside and an operation's fault among them, is the model's choice (assumption logs
4, 5, 6 and 10). -/
def Obligations.EveryStepEndsAfterBoundedReads : Prop :=
  (∀ s, ∃ t, step s = .next t) ∧
  ∀ (i : Instr) (s : State),
    (∀ t, exec i s = .next t →
      (∃ reads, t.busLog = s.busLog ++ reads ∧ reads.length = busReadCount i ∧ reads.length ≤ 3) ∧
      ∃ reads, t.vramLog = s.vramLog ++ reads ∧ reads.length = vramReadCount i ∧ reads.length ≤ 2) ∧
    (∀ f rest, exec i { s with inputs := rest } = .fault f → s.inputs = .request s.owner (encode i) :: rest →
      ∃ t, step s = .next t ∧ SameReads s t)

/-- R400: a (mode, layer) pair without a color depth ends CDEPTH and TILE in ConfigurationError with that pair, cause
code 1, no state change and no VRAM read; only these two operations can raise it. -/
def Obligations.MissingColorDepthIsAConfigurationError : Prop :=
  (∀ (mode : BitVec 3) (layer : Fin 4), (Fault.configurationError mode layer).causeCode = 1) ∧
  (∀ (mode : BitVec 3) (layer : Fin 4) (s : State), listedDepth mode layer = none →
    exec (.cdepth mode layer) s = .fault (.configurationError mode layer)) ∧
  (∀ (layer : Fin 4) (x y : Nat) (s : State), listedDepth s.screenMode layer = none →
    exec (.tile layer x y) s = .fault (.configurationError s.screenMode layer)) ∧
  (∀ (i : Instr) (s : State) (mode : BitVec 3) (layer : Fin 4), exec i s = .fault (.configurationError mode layer) →
    listedDepth mode layer = none ∧ (i = .cdepth mode layer ∨ ∃ x y, i = .tile layer x y)) ∧
  ∀ (i : Instr) (s : State) (rest : List Input) (mode : BitVec 3) (layer : Fin 4),
    s.inputs = .request s.owner (encode i) :: rest →
    exec i { s with inputs := rest } = .fault (.configurationError mode layer) →
    ∃ t, step s = .next t ∧ t.result = .fault (.configurationError mode layer) ∧
      t = { s with inputs := rest, result := t.result, faults := t.faults }

/-- R401: an OAM data access beyond the 544 bytes ends in OamOutOfRange with its position, cause code 2, and changes no
OAM byte, latch or pointer. -/
def Obligations.OamAccessBeyondTheArrayFaultsWithoutEffect : Prop :=
  (∀ p, (Fault.oamOutOfRange p).causeCode = 2) ∧
  (∀ (b : Byte) (s : State), s.oam.flip = true → 544 ≤ s.oam.word.toNat * 2 →
    exec (.oamdata b) s = .fault (.oamOutOfRange (s.oam.word.toNat * 2))) ∧
  (∀ s : State, 544 ≤ s.oam.word.toNat * 2 + s.oam.flip.toNat →
    exec .oamdataread s = .fault (.oamOutOfRange (s.oam.word.toNat * 2 + s.oam.flip.toNat))) ∧
  ∀ (i : Instr) (s : State) (rest : List Input) (p : Nat),
    s.inputs = .request s.owner (encode i) :: rest → exec i { s with inputs := rest } = .fault (.oamOutOfRange p) →
    ∃ t, step s = .next t ∧ t.result = .fault (.oamOutOfRange p) ∧
      t = { s with inputs := rest, result := t.result, faults := t.faults }

/-- R407, R444, U2, U4: no step clears a recorded fault or refusal, so a run that recorded one is never clean again. -/
def Obligations.RecordedFaultsAndRefusalsAreNeverCleared : Prop :=
  ∀ s t : State, step s = .next t →
    (∃ new, t.faults = s.faults ++ new) ∧ (∃ new, t.refusals = s.refusals ++ new) ∧
    (Safety.Clean t → Safety.Clean s)

/-! ### What no operation changes or reads -/

/-- R21, R26, R49: no operation writes a register, a flag, the Memory Bus or video memory, and none touches what waits
on the interfaces. -/
def Obligations.NoOperationWritesRegistersOrExternalMemory : Prop :=
  ∀ (i : Instr) (s t : State), exec i s = .next t →
    SameRegisters s t ∧ t.regs.conditionFlags = s.regs.conditionFlags ∧ t.regs.e = s.regs.e ∧ SameMemory s t ∧
    SameInterface s t

/-- R82: only the five indirect modes access the Memory Bus, and only to read their pointer bytes; the six other modes
return address pairs; no operation writes the bus. -/
def Obligations.OnlyIndirectModesReadTheBus : Prop :=
  (∀ (i : Instr) (s t : State), exec i s = .next t →
    (∀ a, Memory.read .bus t.bus a = Memory.read .bus s.bus a) ∧ (busReadCount i = 0 → t.busLog = s.busLog)) ∧
  (∀ (op8 : Byte) (s t : State), exec (.dpxind op8) s = .next t →
    t.busLog.map (·.1.toNat) = s.busLog.map (·.1.toNat) ++
      [directPageAddress s.regs op8.toNat (indexValue s.regs.e s.params.forcedXH s.regs.x) 0,
       directPageAddress s.regs op8.toNat (indexValue s.regs.e s.params.forcedXH s.regs.x) 1]) ∧
  (∀ (op8 : Byte) (s t : State), exec (.dpind op8) s = .next t ∨ exec (.dpindy op8) s = .next t →
    t.busLog.map (·.1.toNat) = s.busLog.map (·.1.toNat) ++
      [directPageAddress s.regs op8.toNat 0 0, directPageAddress s.regs op8.toNat 0 1]) ∧
  (∀ (op8 : Byte) (s t : State), exec (.dpindl op8) s = .next t ∨ exec (.dpindly op8) s = .next t →
    t.busLog.map (·.1.toNat) = s.busLog.map (·.1.toNat) ++
      [directPageAddress s.regs op8.toNat 0 0, directPageAddress s.regs op8.toNat 0 1,
       directPageAddress s.regs op8.toNat 0 2]) ∧
  ∀ (op16 : BitVec 16) (op8 : Byte) (s t : State),
    (exec (.abs op16) s = .next t ∨ exec (.absx op16) s = .next t ∨ exec (.absy op16) s = .next t ∨
      exec (.dp op8) s = .next t ∨ exec (.dpx op8) s = .next t ∨ exec (.dpy op8) s = .next t) →
    ∃ hi lo, t.result = .pair hi lo

/-- R21: the block reads D, DBR, X, Y and E only: register files that agree on these five give the same outcome of
every operation, whatever A, S, K, PC, C, Z and N hold. -/
def Obligations.OnlyFiveRegistersAreRead : Prop :=
  ∀ (i : Instr) (s : State) (r : RegFile),
    r.d = s.regs.d → r.dbr = s.regs.dbr → r.x = s.regs.x → r.y = s.regs.y → r.e = s.regs.e →
    (∀ t, exec i s = .next t → exec i { s with regs := r } = .next { t with regs := r }) ∧
    (∀ f, exec i s = .fault f → exec i { s with regs := r } = .fault f)

/-- R22: AL and AH are the halves of A; a write of one leaves the other; no operation reads A. -/
def Obligations.AccumulatorHalvesAreAliases : Prop :=
  (∀ (r : RegFile) (b : Byte),
    r.a.toNat = r.ah.toNat * 256 + r.al.toNat ∧
    (r.withAl b).al = b ∧ (r.withAl b).ah = r.ah ∧ (r.withAh b).ah = b ∧ (r.withAh b).al = r.al ∧
    r.withAl b = { r with a := (r.withAl b).a } ∧ r.withAh b = { r with a := (r.withAh b).a }) ∧
  ∀ (i : Instr) (s : State) (v : BitVec 16),
    (∀ t, exec i s = .next t → exec i { s with regs := { s.regs with a := v } } =
      .next { t with regs := { s.regs with a := v } }) ∧
    (∀ f, exec i s = .fault f → exec i { s with regs := { s.regs with a := v } } = .fault f)

/-! ### Address Resolution Engine -/

/-- R23, R24: index and stack reads under E = 1 take the forced high byte, under E = 0 the whole register. -/
def Obligations.RegisterReadsForceTheHighByte : Prop :=
  ∀ (p : Params) (r : RegFile),
    (idxX p r).toNat = (if r.e then p.forcedXH.toNat * 256 + r.x.toNat % 256 else r.x.toNat) ∧
    (idxY p r).toNat = (if r.e then p.forcedYH.toNat * 256 + r.y.toNat % 256 else r.y.toNat) ∧
    (stackRead p r).toNat = (if r.e then p.forcedSH.toNat * 256 + r.s.toNat % 256 else r.s.toNat)

/-- R201, R203, R204: ABS returns DBR:op16 and the next address, with a carry into the bank; ABSX and ABSY add the index
to the 24-bit address before the pair is formed. -/
def Obligations.AbsoluteModesReturnTheAddressPair : Prop :=
  ∀ op16 : BitVec 16,
    PairMode (.are 0x0 (bytesOfOp16 op16)) (.abs op16)
      (fun s => s.regs.dbr.toNat * 0x10000 + op16.toNat)
      (fun s => (s.regs.dbr.toNat * 0x10000 + op16.toNat + 1) % 2 ^ 24) ∧
    PairMode (.are 0x1 (bytesOfOp16 op16)) (.absx op16)
      (fun s => (s.regs.dbr.toNat * 0x10000 + op16.toNat + indexValue s.regs.e s.params.forcedXH s.regs.x) % 2 ^ 24)
      (fun s =>
        (s.regs.dbr.toNat * 0x10000 + op16.toNat + indexValue s.regs.e s.params.forcedXH s.regs.x + 1) % 2 ^ 24) ∧
    PairMode (.are 0x2 (bytesOfOp16 op16)) (.absy op16)
      (fun s => (s.regs.dbr.toNat * 0x10000 + op16.toNat + indexValue s.regs.e s.params.forcedYH s.regs.y) % 2 ^ 24)
      (fun s =>
        (s.regs.dbr.toNat * 0x10000 + op16.toNat + indexValue s.regs.e s.params.forcedYH s.regs.y + 1) % 2 ^ 24)

/-- R202: the low address has the bank DBR; the high address has the next bank (modulo 2^8) exactly when the offset is
0xFFFF, and the next offset modulo 2^16. -/
def Obligations.AbsoluteBankProperty : Prop :=
  ∀ (op16 : BitVec 16) (s : State), ∃ t hi lo, exec (.abs op16) s = .next t ∧ t.result = .pair hi lo ∧
    bankOf lo = s.regs.dbr ∧
    (bankOf hi).toNat = (if op16 = 0xFFFF then (s.regs.dbr.toNat + 1) % 256 else s.regs.dbr.toNat) ∧
    (offOf hi).toNat = (op16.toNat + 1) % 2 ^ 16

/-- R208, R209, R210 (with R205, R206): the Direct family returns the bank-0 addresses of both bytes, on the special
path within the page DH, on the general path modulo 2^16. -/
def Obligations.DirectReturnsThePageAddressPair : Prop :=
  ∀ op8 : Byte,
    PairMode (.are 0x3 [op8]) (.dp op8) (fun s => directPageAddress s.regs op8.toNat 0 0)
      (fun s => directPageAddress s.regs op8.toNat 0 1) ∧
    PairMode (.are 0x4 [op8]) (.dpx op8)
      (fun s => directPageAddress s.regs op8.toNat (indexValue s.regs.e s.params.forcedXH s.regs.x) 0)
      (fun s => directPageAddress s.regs op8.toNat (indexValue s.regs.e s.params.forcedXH s.regs.x) 1) ∧
    PairMode (.are 0x5 [op8]) (.dpy op8)
      (fun s => directPageAddress s.regs op8.toNat (indexValue s.regs.e s.params.forcedYH s.regs.y) 0)
      (fun s => directPageAddress s.regs op8.toNat (indexValue s.regs.e s.params.forcedYH s.regs.y) 1)

/-- R214, R215, R216 (with R211, R212): (Direct) and (Direct,X) read a little-endian 16-bit pointer and give it the bank
DBR, X being added before the dereference; (Direct),Y adds Y after the dereference, modulo 2^24. -/
def Obligations.IndirectModesReadAPointerInBankDbr : Prop :=
  ∀ op8 : Byte,
    ShortPointerMode (.are 0x6 [op8]) (.dpind op8) op8 (fun _ => 0) (fun s p => s.regs.dbr.toNat * 0x10000 + p) ∧
    ShortPointerMode (.are 0x7 [op8]) (.dpxind op8) op8
      (fun s => indexValue s.regs.e s.params.forcedXH s.regs.x) (fun s p => s.regs.dbr.toNat * 0x10000 + p) ∧
    ShortPointerMode (.are 0x8 [op8]) (.dpindy op8) op8 (fun _ => 0)
      (fun s p => (s.regs.dbr.toNat * 0x10000 + p + indexValue s.regs.e s.params.forcedYH s.regs.y) % 2 ^ 24)

/-- R217, R219 (with R213): the long modes read a 24-bit pointer, bank byte last, and [Direct],Y adds Y modulo 2^24. -/
def Obligations.LongIndirectReadsA24BitPointer : Prop :=
  ∀ op8 : Byte,
    LongPointerMode (.are 0x9 [op8]) (.dpindl op8) op8 (fun _ p => p) ∧
    LongPointerMode (.are 0xA [op8]) (.dpindly op8) op8
      (fun s p => (p + indexValue s.regs.e s.params.forcedYH s.regs.y) % 2 ^ 24)

/-- R218: the long indirect modes do not read DBR. -/
def Obligations.LongIndirectIgnoresTheDataBank : Prop :=
  ∀ (op8 : Byte) (s t : State) (bank : BitVec 8),
    (exec (.dpindl op8) s = .next t →
      exec (.dpindl op8) { s with regs := { s.regs with dbr := bank } } =
        .next { t with regs := { s.regs with dbr := bank } }) ∧
    (exec (.dpindly op8) s = .next t →
      exec (.dpindly op8) { s with regs := { s.regs with dbr := bank } } =
        .next { t with regs := { s.regs with dbr := bank } })

/-! ### Background Configuration Unit -/

/-- R251, R252: BGMODE sets the screen mode, layer 2's priority and every layer's tile size; MOSAIC sets every layer's
enable and the size code. -/
def Obligations.BgmodeAndMosaicSetTheirFields : Prop :=
  BackgroundWrite 0x2105 .bgmode
    (fun s b n r => r = { s.layer n with
      tileSize16 := b.toNat.testBit (4 + n.val)
      priority := if n = 2 then b.toNat.testBit 3 else (s.layer n).priority })
    (fun _ b => b.toNat % 8) (fun s _ => s.mosaicSize.toNat) ∧
  BackgroundWrite 0x2106 .mosaic (fun s b n r => r = { s.layer n with mosaic := b.toNat.testBit n.val })
    (fun s _ => s.screenMode.toNat) (fun _ b => b.toNat / 16)

/-- R253 to R258: BG1SC to BG4SC replace one layer's tilemap base and screen size; BG12NBA and BG34NBA replace the tileset
bases of two layers, the low nibble that of the first. -/
def Obligations.TilemapAndTilesetRegistersSetBases : Prop :=
  LayerWrite 0x2107 .bg1sc (TilemapRecord 0) ∧ LayerWrite 0x2108 .bg2sc (TilemapRecord 1) ∧
  LayerWrite 0x2109 .bg3sc (TilemapRecord 2) ∧ LayerWrite 0x210A .bg4sc (TilemapRecord 3) ∧
  LayerWrite 0x210B .bg12nba (TilesetRecord 0 1) ∧ LayerWrite 0x210C .bg34nba (TilesetRecord 2 3)

/-- R259, R260, R261: W12SEL and W34SEL replace both window masks of two layers; WBGLOG sets every layer's combine logic
from its two bits. -/
def Obligations.WindowRegistersSetMasksAndLogic : Prop :=
  LayerWrite 0x2123 .w12sel (WindowRecord 0 1) ∧ LayerWrite 0x2124 .w34sel (WindowRecord 2 3) ∧
  LayerWrite 0x212A .wbglog (fun s b n r =>
    r = { s.layer n with winLogic := r.winLogic } ∧ r.winLogic.toNat = b.toNat / 4 ^ n.val % 4)

/-- R262 to R266: TM, TS, TMW, TSW and CGADSUB set one enable per layer from bits 3:0; bits 7:4 are ignored. -/
def Obligations.EnableRegistersSetOneBitPerLayer : Prop :=
  LayerWrite 0x212C .tm (fun s b n r => r = { s.layer n with mainShow := b.toNat.testBit n.val }) ∧
  LayerWrite 0x212D .ts (fun s b n r => r = { s.layer n with subShow := b.toNat.testBit n.val }) ∧
  LayerWrite 0x212E .tmw (fun s b n r => r = { s.layer n with mainWindow := b.toNat.testBit n.val }) ∧
  LayerWrite 0x212F .tsw (fun s b n r => r = { s.layer n with subWindow := b.toNat.testBit n.val }) ∧
  LayerWrite 0x2131 .cgadsub (fun s b n r => r = { s.layer n with colorMath := b.toNat.testBit n.val })

/-- R112 (the rows marked "ignored"), D39, U14: bytes that differ in ignored bits only have the same effect. -/
def Obligations.IgnoredBitsAffectNothing : Prop :=
  ∀ (b c : Byte) (s : State),
    (b.toNat % 16 = c.toNat % 16 →
      exec (.tm b) s = exec (.tm c) s ∧ exec (.ts b) s = exec (.ts c) s ∧ exec (.tmw b) s = exec (.tmw c) s ∧
      exec (.tsw b) s = exec (.tsw c) s ∧ exec (.cgadsub b) s = exec (.cgadsub c) s) ∧
    (b.toNat / 64 = c.toNat / 64 → b.toNat % 4 = c.toNat % 4 → exec (.m7sel b) s = exec (.m7sel c) s) ∧
    (b.toNat / 128 = c.toNat / 128 → b.toNat % 2 = c.toNat % 2 → exec (.oamaddh b) s = exec (.oamaddh c) s)

/-- R270: VALIDBG lists layer 0 always, layer 1 for modes below 6, layer 2 for modes below 2, layer 3 for mode 0, in
ascending order, and changes no state. -/
def Obligations.ValidBackgroundsListsTheActiveLayers : Prop :=
  ∀ (mode : BitVec 3) (s : State), decode (.query 2 [mode.toNat]) = .ok (.validbg mode) ∧
    ∃ t l, exec (.validbg mode) s = .next t ∧ t.result = .layers l ∧ l.Pairwise (· < ·) ∧
      (∀ n : Fin 4, n ∈ l ↔ n = 0 ∨ (n = 1 ∧ mode.toNat < 6) ∨ (n = 2 ∧ mode.toNat < 2) ∨ (n = 3 ∧ mode.toNat = 0)) ∧
      OnlyResult s t

/-- R271: CDEPTH returns the table's depth and changes no state; for a cell without one it is a ConfigurationError. -/
def Obligations.ColorDepthFollowsTheTable : Prop :=
  ∀ (mode : BitVec 3) (layer : Fin 4) (s : State),
    decode (.query 3 [mode.toNat, layer.val]) = .ok (.cdepth mode layer) ∧
    (∀ d, listedDepth mode layer = some d →
      ∃ t, exec (.cdepth mode layer) s = .next t ∧ t.result = .depth d ∧ OnlyResult s t) ∧
    (listedDepth mode layer = none → exec (.cdepth mode layer) s = .fault (.configurationError mode layer))

/-- R272: a color depth is defined exactly for the layers that VALIDBG lists. -/
def Obligations.ColorDepthIsDefinedExactlyForValidLayers : Prop :=
  ∀ (mode : BitVec 3) (layer : Fin 4) (s : State),
    (∃ t, exec (.cdepth mode layer) s = .next t) ↔
      ∃ t l, exec (.validbg mode) s = .next t ∧ t.result = .layers l ∧ layer ∈ l

/-! ### Scroll Latch Chain -/

/-- R294, R296, R298 (with R290): BG2HOFS, BG3HOFS and BG4HOFS, the horizontal scroll registers of layers 1 to 3. -/
def Obligations.HorizontalScrollCombinesBothLatches : Prop :=
  HorizontalWrite 0x210F 1 KeepsMode7 ∧ HorizontalWrite 0x2111 2 KeepsMode7 ∧ HorizontalWrite 0x2113 3 KeepsMode7

/-- R295, R297, R299 (with R291): BG2VOFS, BG3VOFS and BG4VOFS, the vertical scroll registers of layers 1 to 3. -/
def Obligations.VerticalScrollCombinesLatch1 : Prop :=
  VerticalWrite 0x2110 1 KeepsMode7 ∧ VerticalWrite 0x2112 2 KeepsMode7 ∧ VerticalWrite 0x2114 3 KeepsMode7

/-- R292, R293: BG1HOFS and BG1VOFS, the layer-0 scroll registers, also put the byte into the Mode-7 cascade, for m7HOFS and m7VOFS. -/
def Obligations.LayerZeroScrollAlsoFeedsTheCascade : Prop :=
  HorizontalWrite 0x210D 0 (CascadesInto .hofs) ∧ VerticalWrite 0x210E 0 (CascadesInto .vofs)

/-- R301: writing `lo` and later `hi` to one scroll register, with any operations but scroll writes between (all of which
answer a next state), leaves `{hi[1:0], lo}` there, whatever the latches held; the value after the first write alone is
made from the latches before it. -/
def Obligations.TwoWriteScrollIdiom : Prop :=
  ∀ (n : Fin 4) (lo hi : Byte) (s : State),
    (∃ t, exec (hScrollWrite n lo) s = .next t ∧
      (t.layer n).hScroll.toNat = lo.toNat % 4 * 256 + s.latch1.toNat / 8 * 8 + s.latch2.toNat % 8 ∧
      ∀ (between : List Instr) (u : State), (∀ i ∈ between, ¬ IsScrollWrite i) → Safety.runOps between t = .next u →
        ∃ v, exec (hScrollWrite n hi) u = .next v ∧ (v.layer n).hScroll.toNat = hi.toNat % 4 * 256 + lo.toNat) ∧
    (∃ t, exec (vScrollWrite n lo) s = .next t ∧
      (t.layer n).vScroll.toNat = lo.toNat % 4 * 256 + s.latch1.toNat ∧
      ∀ (between : List Instr) (u : State), (∀ i ∈ between, ¬ IsScrollWrite i) → Safety.runOps between t = .next u →
        ∃ v, exec (vScrollWrite n hi) u = .next v ∧ (v.layer n).vScroll.toNat = hi.toNat % 4 * 256 + lo.toNat)

/-- R302, R435: after a vertical write between two horizontal ones, the horizontal value takes bits 7:3 from the
vertical byte and bits 2:0 from the first horizontal byte; the vertical write changes only `latch1`. -/
def Obligations.VerticalWriteBetweenHorizontalWrites : Prop :=
  ∀ (n m k : Fin 4) (first vertical second : Byte) (s : State), ∃ t u v,
    exec (hScrollWrite n first) s = .next t ∧ exec (vScrollWrite m vertical) t = .next u ∧
    u.latch1 = vertical ∧ u.latch2 = t.latch2 ∧ exec (hScrollWrite k second) u = .next v ∧
    (v.layer k).hScroll.toNat = second.toNat % 4 * 256 + vertical.toNat / 8 * 8 + first.toNat % 8

/-- R303: a scroll write changes the scroll value of its own layer and direction only. -/
def Obligations.ScrollWriteChangesItsOwnValueOnly : Prop :=
  ∀ (n m : Fin 4) (b : Byte) (s t : State),
    (exec (hScrollWrite n b) s = .next t →
      (t.layer m).vScroll = (s.layer m).vScroll ∧ (m ≠ n → (t.layer m).hScroll = (s.layer m).hScroll)) ∧
    (exec (vScrollWrite n b) s = .next t →
      (t.layer m).hScroll = (s.layer m).hScroll ∧ (m ≠ n → (t.layer m).vScroll = (s.layer m).vScroll))

/-- R300, R434: a horizontal scroll write of any layer between the two writes of a horizontal pair, and a scroll write of any
layer and direction between the two writes of a vertical pair, takes the place of the pair's first byte in the value (a
vertical write between two horizontal ones: `VerticalWriteBetweenHorizontalWrites`). -/
def Obligations.ScrollLatchesAreSharedByEveryLayer : Prop :=
  ∀ (n m : Fin 4) (lo other hi : Byte) (s : State),
    (∃ t, Safety.runOps [hScrollWrite n lo, hScrollWrite m other, hScrollWrite n hi] s = .next t ∧
      (t.layer n).hScroll.toNat = hi.toNat % 4 * 256 + other.toNat) ∧
    (∃ t, Safety.runOps [vScrollWrite n lo, hScrollWrite m other, vScrollWrite n hi] s = .next t ∧
      (t.layer n).vScroll.toNat = hi.toNat % 4 * 256 + other.toNat) ∧
    ∃ t, Safety.runOps [vScrollWrite n lo, vScrollWrite m other, vScrollWrite n hi] s = .next t ∧
      (t.layer n).vScroll.toNat = hi.toNat % 4 * 256 + other.toNat

/-! ### Mode-7 Unit -/

/-- R340: M7SEL stores the screen-over code and the flips; cache and parameters stay; bits 5:2 are ignored. -/
def Obligations.M7selStoresSettingsOnly : Prop :=
  ∀ (b : Byte) (s : State), decode (.mmioWrite 0x211A b) = .ok (.m7sel b) ∧
    ∃ t, exec (.m7sel b) s = .next t ∧ t.m7.screenOver.toNat = b.toNat / 64 ∧
      t.m7.vFlip = b.toNat.testBit 1 ∧ t.m7.hFlip = b.toNat.testBit 0 ∧ t.m7.cache = s.m7.cache ∧
      (∀ p, t.m7.param p = s.m7.param p) ∧ t.result = .nothing ∧ OnlyMode7 s t

/-- R343 to R348 (with R342): M7A, M7B, M7C, M7D, M7X and M7Y, the six parameter registers, go through the shared cascade. -/
def Obligations.ParameterRegistersCascade : Prop :=
  ParameterWrite 0x211B .a ∧ ParameterWrite 0x211C .b ∧ ParameterWrite 0x211D .c ∧ ParameterWrite 0x211E .d ∧
  ParameterWrite 0x211F .x ∧ ParameterWrite 0x2120 .y

/-- R350, R437: after any sequence of cascade writes, a parameter holds the byte of its last write above the byte of
the cascade write immediately before that one, to whichever parameter; before the first write stands the cache's low
byte, which is 0x00 at construction. -/
def Obligations.ParameterLowByteIsThePreviousCascadeByte : Prop :=
  (∀ (p : Params) (owner : Nat), (State.construct p owner).m7.cache = 0) ∧
  ∀ (before after : List (M7Param × Byte)) (p : M7Param) (b : Byte) (s : State),
    (∀ w ∈ after, w.1 ≠ p) →
    ∃ t, Safety.runOps ((before ++ (p, b) :: after).map fun w => cascadeWrite w.1 w.2) s = .next t ∧
      (t.m7.param p).toNat =
        b.toNat * 256 + (match before.getLast? with | some w => w.2.toNat | none => s.m7.cache.toNat % 256)

/-- R351: `lo` and later `hi` to one parameter, with any operations but cascade writes between (all of which answer a next
state), leave `{hi, lo}`. -/
def Obligations.LowThenHighPairSetsAParameter : Prop :=
  ∀ (p : M7Param) (lo hi : Byte) (s : State), ∃ t, exec (cascadeWrite p lo) s = .next t ∧
    ∀ (between : List Instr) (u : State), (∀ i ∈ between, ¬ IsCascadeWrite i) → Safety.runOps between t = .next u →
      ∃ v, exec (cascadeWrite p hi) u = .next v ∧ (v.m7.param p).toNat = hi.toNat * 256 + lo.toNat

/-- R436: a layer-0 scroll write replaces the cache with its byte; one between the two writes of a parameter replaces its low byte; a parameter write between
the two writes of a layer-0 scroll pair replaces the low byte of m7HOFS or m7VOFS but not the scroll value; scroll writes of
layers 1 to 3 leave the Mode-7 record alone. -/
def Obligations.LayerZeroScrollInterleavesWithParameters : Prop :=
  ∀ (p : M7Param) (lo mid hi : Byte) (s : State),
    (∃ t u, exec (.bg1hofs mid) s = .next t ∧ t.m7.cache.toNat = mid.toNat ∧
      exec (.bg1vofs mid) s = .next u ∧ u.m7.cache.toNat = mid.toNat) ∧
    (p ≠ .hofs → ∃ t, Safety.runOps [cascadeWrite p lo, .bg1hofs mid, cascadeWrite p hi] s = .next t ∧
      (t.m7.param p).toNat = hi.toNat * 256 + mid.toNat) ∧
    (p ≠ .vofs → ∃ t, Safety.runOps [cascadeWrite p lo, .bg1vofs mid, cascadeWrite p hi] s = .next t ∧
      (t.m7.param p).toNat = hi.toNat * 256 + mid.toNat) ∧
    (p ≠ .hofs → p ≠ .vofs →
      (∃ t, Safety.runOps [.bg1hofs lo, cascadeWrite p mid, .bg1hofs hi] s = .next t ∧
        t.m7.hofs.toNat = hi.toNat * 256 + mid.toNat ∧ (t.layer 0).hScroll.toNat = hi.toNat % 4 * 256 + lo.toNat) ∧
      ∃ t, Safety.runOps [.bg1vofs lo, cascadeWrite p mid, .bg1vofs hi] s = .next t ∧
        t.m7.vofs.toNat = hi.toNat * 256 + mid.toNat ∧ (t.layer 0).vScroll.toNat = hi.toNat % 4 * 256 + lo.toNat) ∧
    ∀ (n : Fin 4) (t : State), n ≠ 0 →
      exec (hScrollWrite n mid) s = .next t ∨ exec (vScrollWrite n mid) s = .next t → t.m7 = s.m7

/-! ### Tile and tilemap addressing -/

/-- R310, R311: TMADDR returns the byte address of a tile's entry, for every layer, every mode and all coordinates, and
changes no state. -/
def Obligations.TilemapAddressFollowsTheQuadrants : Prop :=
  ∀ (layer : Fin 4) (x y : Nat) (s : State), decode (.query 0 [layer.val, x, y]) = .ok (.tmaddr layer x y) ∧
    ∃ t, exec (.tmaddr layer x y) s = .next t ∧
      t.result = .address (((s.layer layer).tilemapBase.toNat +
        quadrantIndex (s.layer layer).screenSize.toNat x y) * 2048 + y % 32 * 64 + x % 32 * 2) ∧
      OnlyResult s t

/-- R312, R311: a tilemap address is even and at most 0x217FE, the maximum is reached, and coordinates wrap modulo 64. -/
def Obligations.TilemapAddressRange : Prop :=
  (∀ (layer : Fin 4) (x y : Nat) (s t : State) (a : Nat), exec (.tmaddr layer x y) s = .next t →
    t.result = .address a → a ≤ 0x217FE ∧ a % 2 = 0 ∧
      ∀ j k, exec (.tmaddr layer (x + 64 * j) (y + 64 * k)) s = .next t) ∧
  ∀ (layer : Fin 4) (s : State), (s.layer layer).tilemapBase = 63 → (s.layer layer).screenSize = 3 →
    ∃ t, exec (.tmaddr layer 63 63) s = .next t ∧ t.result = .address 0x217FE

/-- R313 (with R314, R315, R316, R317): TILE of a layer with a color depth reads the two entry bytes, low byte first, and
returns the record they and the layer's record give; it changes no state. -/
def Obligations.TileReturnsTheRecordOfItsEntry : Prop :=
  ∀ (layer : Fin 4) (x y d : Nat) (s : State), listedDepth s.screenMode layer = some d →
    decode (.query 1 [layer.val, x, y]) = .ok (.tile layer x y) ∧
    ∃ t a e0 e1 entry record, exec (.tile layer x y) s = .next t ∧
      a = ((s.layer layer).tilemapBase.toNat + quadrantIndex (s.layer layer).screenSize.toNat x y) * 2048 +
        y % 32 * 64 + x % 32 * 2 ∧
      t.vramLog = s.vramLog ++ [(a % s.params.vramSize, e0), ((a + 1) % s.params.vramSize, e1)] ∧
      VramMayAnswer s (a % s.params.vramSize) e0 ∧ VramMayAnswer s ((a + 1) % s.params.vramSize) e1 ∧
      t.busLog = s.busLog ∧ entry = e1.toNat * 256 + e0.toNat ∧ t.result = .tile record ∧
      record.palette.toNat = entry / 1024 % 8 ∧ record.priority = entry.testBit 13 ∧
      record.hFlip = entry.testBit 14 ∧ record.vFlip = entry.testBit 15 ∧ record.depth = d ∧
      record.dataAddr = (s.layer layer).tilesetBase.toNat * 8192 + entry % 1024 * (8 * d) ∧
      record.width = (if (s.layer layer).tileSize16 then 16 else 8) ∧ record.height = record.width ∧
      OnlyReads s t

/-- R314, R317, R316: whatever the reads answer, a tile record's data address is at most 0x2DFC0, its depth is 2, 4 or 8 and
its width and height are both 8 or both 16. -/
def Obligations.TileRecordRanges : Prop :=
  ∀ (layer : Fin 4) (x y : Nat) (s t : State) (r : TileRecord), exec (.tile layer x y) s = .next t →
    t.result = .tile r →
    r.dataAddr ≤ 0x2DFC0 ∧ (r.depth = 2 ∨ r.depth = 4 ∨ r.depth = 8) ∧ (r.width = 8 ∨ r.width = 16) ∧
    r.height = r.width

/-! ### OAM Unit -/

/-- R360: OAMADDL replaces the low eight bits of the address register and nothing else. -/
def Obligations.OamAddressLowChangesTheRegisterOnly : Prop :=
  ∀ (b : Byte) (s : State), decode (.mmioWrite 0x2102 b) = .ok (.oamaddl b) ∧
    ∃ t, exec (.oamaddl b) s = .next t ∧ t.oam.addrReg.toNat = s.oam.addrReg.toNat / 256 * 256 + b.toNat ∧
      t.oam.prioRot = s.oam.prioRot ∧ t.oam.word = s.oam.word ∧ t.oam.flip = s.oam.flip ∧
      t.oam.latch = s.oam.latch ∧ t.oam.last = s.oam.last ∧ SameOamBytes s t ∧ t.result = .nothing ∧ OnlyOam s t

/-- R361: OAMADDH completes the 9-bit word address, reloads the word pointer and the last address with it, makes the
parity even and sets the priority-rotation bit; the latch and every OAM byte stay; bits 6:1 are ignored. -/
def Obligations.OamAddressHighReloadsThePointer : Prop :=
  ∀ (b : Byte) (s : State), decode (.mmioWrite 0x2103 b) = .ok (.oamaddh b) ∧
    ∃ t, exec (.oamaddh b) s = .next t ∧
      t.oam.addrReg.toNat = b.toNat % 2 * 256 + s.oam.addrReg.toNat % 256 ∧ t.oam.word = t.oam.addrReg ∧
      t.oam.last = t.oam.addrReg ∧ t.oam.flip = false ∧ t.oam.prioRot = b.toNat.testBit 7 ∧
      t.oam.latch = s.oam.latch ∧ SameOamBytes s t ∧ t.result = .nothing ∧ OnlyOam s t

/-- R363, R364: an even OAMDATA write sets the latch and the parity only; an odd one within the array commits the latch
and the byte at the current word, changes exactly these two bytes, advances the word and makes the parity even. -/
def Obligations.OamDataBuffersThenCommits : Prop :=
  ∀ (b : Byte) (s : State), decode (.mmioWrite 0x2104 b) = .ok (.oamdata b) ∧
    (s.oam.flip = false → ∃ t, exec (.oamdata b) s = .next t ∧ t.oam = { s.oam with latch := b, flip := true } ∧
      t.result = .nothing ∧ OnlyOam s t) ∧
    (s.oam.flip = true → s.oam.word.toNat < 272 → ∃ t, exec (.oamdata b) s = .next t ∧
      t.oam.byteAt (s.oam.word.toNat * 2) = s.oam.latch ∧ t.oam.byteAt (s.oam.word.toNat * 2 + 1) = b ∧
      (∀ i, i ≠ s.oam.word.toNat * 2 → i ≠ s.oam.word.toNat * 2 + 1 → t.oam.byteAt i = s.oam.byteAt i) ∧
      t.oam.word.toNat = s.oam.word.toNat + 1 ∧ t.oam.flip = false ∧ t.oam.latch = s.oam.latch ∧
      t.oam.addrReg = s.oam.addrReg ∧ t.oam.prioRot = s.oam.prioRot ∧ t.oam.last = s.oam.last ∧
      t.result = .nothing ∧ OnlyOam s t) ∧
    (s.oam.flip = true → 272 ≤ s.oam.word.toNat →
      exec (.oamdata b) s = .fault (.oamOutOfRange (s.oam.word.toNat * 2)))

/-- R365: OAMDATAREAD within the array returns the array's byte at the current position, never the latch, and advances
the position by one; it changes no byte and no latch; beyond the array it is a fault. -/
def Obligations.OamDataReadReturnsTheArrayByte : Prop :=
  ∀ s : State, decode (.mmioRead 0x2138) = .ok .oamdataread ∧
    (s.oam.word.toNat * 2 + s.oam.flip.toNat < 544 → ∃ t, exec .oamdataread s = .next t ∧
      t.result = .byte (s.oam.byteAt (s.oam.word.toNat * 2 + s.oam.flip.toNat)) ∧
      t.oam.word.toNat * 2 + t.oam.flip.toNat = s.oam.word.toNat * 2 + s.oam.flip.toNat + 1 ∧
      SameOamBytes s t ∧ t.oam.latch = s.oam.latch ∧ t.oam.addrReg = s.oam.addrReg ∧
      t.oam.prioRot = s.oam.prioRot ∧ t.oam.last = s.oam.last ∧ OnlyOam s t) ∧
    (544 ≤ s.oam.word.toNat * 2 + s.oam.flip.toNat →
      exec .oamdataread s = .fault (.oamOutOfRange (s.oam.word.toNat * 2 + s.oam.flip.toNat)))

/-- R362: both data operations advance the byte position by one, modulo 1024: the word wraps from 511 to 0. -/
def Obligations.DataAccessesAdvanceThePositionByOne : Prop :=
  (∀ o : Oam, o.advance.word.toNat * 2 + o.advance.flip.toNat = (o.word.toNat * 2 + o.flip.toNat + 1) % 1024) ∧
  ∀ (i : Instr) (s t : State), IsOamAccess i → exec i s = .next t →
    t.oam.word = s.oam.advance.word ∧ t.oam.flip = s.oam.advance.flip

/-- R366: from the construction state the sequence write(1), read, read, write(2), read, write(3) reads 0 three times
and leaves the first six OAM bytes 00 00 01 02 01 03. -/
def Obligations.InterleavedOamScenario : Prop :=
  ∀ (p : Params) (owner : Nat), ∃ s1 s2 s3 s4 s5 s6,
    exec (.oamdata 1) (State.construct p owner) = .next s1 ∧ exec .oamdataread s1 = .next s2 ∧
    s2.result = .byte 0 ∧ exec .oamdataread s2 = .next s3 ∧ s3.result = .byte 0 ∧
    exec (.oamdata 2) s3 = .next s4 ∧ exec .oamdataread s4 = .next s5 ∧ s5.result = .byte 0 ∧
    exec (.oamdata 3) s5 = .next s6 ∧
    (List.range 6).map s6.oam.byteAt = [0x00, 0x00, 0x01, 0x02, 0x01, 0x03] ∧ s6.oam.word = 3 ∧
    s6.oam.flip = false ∧ s6.oam.latch = 0x01

/-- R367: after OAMADDL and OAMADDH and any OAM data accesses that succeed, the same OAMADDH again restores the word
pointer and leaves the last address as it was. -/
def Obligations.RepeatedAddressHighRestoresThePointer : Prop :=
  ∀ (low high : Byte) (accesses : List Instr) (s t u : State), (∀ i ∈ accesses, IsOamAccess i) →
    Safety.runOps [.oamaddl low, .oamaddh high] s = .next t → Safety.runOps accesses t = .next u →
    ∃ v, exec (.oamaddh high) u = .next v ∧ v.oam.word = t.oam.word ∧ v.oam.last = t.oam.last ∧
      v.oam.word.toNat = high.toNat % 2 * 256 + low.toNat ∧ v.oam.flip = false ∧ v.oam.latch = u.oam.latch

/-- R438, R439: from even parity, an OAM read between the two writes of a word within the array makes the second write a
buffering one; an OAMADDH write between them discards the first byte unless a read comes before the second write, which
then commits the first byte with its own at the word that OAMADDH loaded, for every such word within the array. -/
def Obligations.ReadsAndReloadsShiftTheOamParity : Prop :=
  ∀ (first second high : Byte) (s : State), s.oam.flip = false →
    (s.oam.word.toNat < 272 →
      ∃ t, Safety.runOps [.oamdata first, .oamdataread, .oamdata second] s = .next t ∧ SameOamBytes s t ∧
        t.oam.latch = second) ∧
    (∃ t, Safety.runOps [.oamdata first, .oamaddh high, .oamdata second] s = .next t ∧ SameOamBytes s t ∧
      t.oam.latch = second) ∧
    (high.toNat % 2 * 256 + s.oam.addrReg.toNat % 256 < 272 →
      ∃ t, Safety.runOps [.oamdata first, .oamaddh high, .oamdataread, .oamdata second] s = .next t ∧
        t.oam.byteAt ((high.toNat % 2 * 256 + s.oam.addrReg.toNat % 256) * 2) = first ∧
        t.oam.byteAt ((high.toNat % 2 * 256 + s.oam.addrReg.toNat % 256) * 2 + 1) = second)
end

