-- ==== Sys2Proof/Laws/Memory.lean ====
section
/-! SUPPORT. The laws of memory: a read after a write, and the canonical form kept by every operation. All but the
canonical form hold of every list, canonical or not. -/

namespace Sys2Proof.Machine

/-! ### Finding a byte -/

@[simp] theorem Memory.find_nil (a : Nat) : Memory.find [] a = none := rfl

theorem Memory.find_cons (c : Host.Cell) (m : Memory) (a : Nat) :
    Memory.find (c :: m) a = if c.1 = a then some c.2 else Memory.find m a := rfl

@[simp] theorem Memory.find_insert_self (m : Memory) (a : Nat) (b : Byte) :
    Memory.find (Memory.insert m a b) a = some b := by
  induction m with
  | nil => simp [Memory.insert, Memory.find]
  | cons c m ih =>
    unfold Memory.insert
    split
    · simp [Memory.find]
    · split
      · simp [Memory.find]
      · rename_i h
        simp [Memory.find, Ne.symm h, ih]

theorem Memory.find_insert_ne (m : Memory) (a k : Nat) (b : Byte) (h : k ≠ a) :
    Memory.find (Memory.insert m a b) k = Memory.find m k := by
  induction m with
  | nil => simp [Memory.insert, Memory.find, h.symm]
  | cons c m ih =>
    unfold Memory.insert
    split
    · simp [Memory.find, h.symm]
    · split
      · rename_i e
        simp [Memory.find, h.symm, ← e]
      · simp [Memory.find, ih]

@[simp] theorem Memory.find_erase_self (m : Memory) (a : Nat) : Memory.find (Memory.erase m a) a = none := by
  induction m with
  | nil => rfl
  | cons c m ih =>
    by_cases h : c.1 = a
    · simpa [Memory.erase, h] using ih
    · simpa [Memory.erase, h, Memory.find] using ih

theorem Memory.find_erase_ne (m : Memory) (a k : Nat) (h : k ≠ a) :
    Memory.find (Memory.erase m a) k = Memory.find m k := by
  induction m with
  | nil => rfl
  | cons c m ih =>
    by_cases hc : c.1 = a
    · have : c.1 ≠ k := fun e => h (e.symm.trans hc)
      simpa [Memory.erase, hc, Memory.find, h.symm] using ih
    · by_cases hk : c.1 = k
      · simp [Memory.erase, Memory.find, hk, h]
      · simpa [Memory.erase, hc, Memory.find, hk] using ih

/-! ### Reading after writing -/

theorem Memory.read_write_self (sp : Space) (m : Memory) (a : Nat) (b : Byte) :
    Memory.read sp (Memory.write sp m a b) a = some b := by
  unfold Memory.write
  split
  · rename_i h
    simp [Memory.read, h]
  · simp [Memory.read]

theorem Memory.read_write_ne (sp : Space) (m : Memory) (a k : Nat) (b : Byte) (h : k ≠ a) :
    Memory.read sp (Memory.write sp m a b) k = Memory.read sp m k := by
  unfold Memory.write
  split
  · simp [Memory.read, Memory.find_erase_ne m a k h]
  · simp [Memory.read, Memory.find_insert_ne m a k b h]

/-- Where an unlisted address fixes nothing, a put makes the address answer exactly what was put. -/
theorem Memory.read_put_self (sp : Space) (hsp : unlisted sp = none) (m : Memory) (a : Nat) (v : Option Byte) :
    Memory.read sp (Memory.put sp m a v) a = v := by
  cases v with
  | none => simp [Memory.put, Memory.read, hsp]
  | some b => exact Memory.read_write_self sp m a b

theorem Memory.read_put_ne (sp : Space) (m : Memory) (a k : Nat) (v : Option Byte) (h : k ≠ a) :
    Memory.read sp (Memory.put sp m a v) k = Memory.read sp m k := by
  cases v with
  | none => simp [Memory.put, Memory.read, Memory.find_erase_ne m a k h]
  | some b => exact Memory.read_write_ne sp m a k b h

/-! ### The canonical form -/

theorem Memory.mem_insert {m : Memory} {a : Nat} {b : Byte} {c : Host.Cell} (h : c ∈ Memory.insert m a b) :
    c = (a, b) ∨ c ∈ m := by
  induction m with
  | nil => simpa [Memory.insert] using h
  | cons d m ih =>
    unfold Memory.insert at h
    split at h
    · simpa using h
    · split at h
      · rcases List.mem_cons.mp h with h | h
        · exact .inl h
        · exact .inr (List.mem_cons_of_mem _ h)
      · rcases List.mem_cons.mp h with h | h
        · exact .inr (h ▸ List.mem_cons_self)
        · exact (ih h).imp id (List.mem_cons_of_mem _)

theorem Memory.insert_rising {m : Memory} (a : Nat) (b : Byte) (h : m.Pairwise fun c d => c.1 < d.1) :
    (Memory.insert m a b).Pairwise fun c d => c.1 < d.1 := by
  induction m with
  | nil => simp [Memory.insert]
  | cons d m ih =>
    have hd := List.pairwise_cons.mp h
    unfold Memory.insert
    split
    · rename_i lt
      refine List.pairwise_cons.mpr ⟨fun c hc => ?_, h⟩
      rcases List.mem_cons.mp hc with rfl | hc
      · exact lt
      · exact lt.trans (hd.1 c hc)
    · split
      · rename_i e
        exact List.pairwise_cons.mpr ⟨fun c hc => by simpa [e] using hd.1 c hc, hd.2⟩
      · refine List.pairwise_cons.mpr ⟨fun c hc => ?_, ih hd.2⟩
        rcases Memory.mem_insert hc with rfl | hc
        · show d.1 < a
          omega
        · exact hd.1 c hc

theorem Memory.wf_nil (sp : Space) (size : Nat) : Memory.wf sp size [] := by simp [Memory.wf]

theorem Memory.wf_erase {sp : Space} {size : Nat} {m : Memory} (a : Nat) (h : Memory.wf sp size m) :
    Memory.wf sp size (Memory.erase m a) :=
  ⟨h.1.filter _, fun c hc => h.2 c (List.mem_of_mem_filter hc)⟩

/-- Every write below the size keeps the canonical form. -/
theorem Memory.wf_write {sp : Space} {size : Nat} {m : Memory} {a : Nat} (b : Byte) (ha : a < size)
    (h : Memory.wf sp size m) : Memory.wf sp size (Memory.write sp m a b) := by
  unfold Memory.write
  split
  · exact Memory.wf_erase a h
  · rename_i ne
    refine ⟨Memory.insert_rising a b h.1, fun c hc => ?_⟩
    rcases Memory.mem_insert hc with rfl | hc
    · exact ⟨ha, ne⟩
    · exact h.2 c hc

/-- Every put below the size keeps the canonical form. -/
theorem Memory.wf_put {sp : Space} {size : Nat} {m : Memory} {a : Nat} (v : Option Byte) (ha : a < size)
    (h : Memory.wf sp size m) : Memory.wf sp size (Memory.put sp m a v) := by
  cases v with
  | none => exact Memory.wf_erase a h
  | some b => exact Memory.wf_write b ha h

/-- Reset's memories have the canonical form. -/
theorem Memory.wf_reset :
    Memory.wf .bus Config.busSize State.reset.bus ∧ Memory.wf .vram State.reset.params.vramSize State.reset.vram ∧
      Memory.wf .oam Config.oamSize State.reset.oam.bytes :=
  ⟨Memory.wf_nil _ _, Memory.wf_nil _ _, Memory.wf_nil _ _⟩

end Sys2Proof.Machine
end

