-- ==== Sys2Proof/Laws/State.lean ====
section
/-! SUPPORT. One lemma per field per state update, and the layer accessor through every update, so that no later proof
unfolds a record update. -/

namespace Sys2Proof.Machine

variable (s : State)

/-! ### answer -/

@[simp] theorem State.answer_params (r : Result) : (s.answer r).params = s.params := rfl
@[simp] theorem State.answer_owner (r : Result) : (s.answer r).owner = s.owner := rfl
@[simp] theorem State.answer_regs (r : Result) : (s.answer r).regs = s.regs := rfl
@[simp] theorem State.answer_bg (r : Result) : (s.answer r).bg = s.bg := rfl
@[simp] theorem State.answer_screenMode (r : Result) : (s.answer r).screenMode = s.screenMode := rfl
@[simp] theorem State.answer_mosaicSize (r : Result) : (s.answer r).mosaicSize = s.mosaicSize := rfl
@[simp] theorem State.answer_latch1 (r : Result) : (s.answer r).latch1 = s.latch1 := rfl
@[simp] theorem State.answer_latch2 (r : Result) : (s.answer r).latch2 = s.latch2 := rfl
@[simp] theorem State.answer_m7 (r : Result) : (s.answer r).m7 = s.m7 := rfl
@[simp] theorem State.answer_oam (r : Result) : (s.answer r).oam = s.oam := rfl
@[simp] theorem State.answer_bus (r : Result) : (s.answer r).bus = s.bus := rfl
@[simp] theorem State.answer_vram (r : Result) : (s.answer r).vram = s.vram := rfl
@[simp] theorem State.answer_draws (r : Result) : (s.answer r).draws = s.draws := rfl
@[simp] theorem State.answer_busLog (r : Result) : (s.answer r).busLog = s.busLog := rfl
@[simp] theorem State.answer_vramLog (r : Result) : (s.answer r).vramLog = s.vramLog := rfl
@[simp] theorem State.answer_inputs (r : Result) : (s.answer r).inputs = s.inputs := rfl
@[simp] theorem State.answer_result (r : Result) : (s.answer r).result = r := rfl
@[simp] theorem State.answer_faults (r : Result) : (s.answer r).faults = s.faults := rfl
@[simp] theorem State.answer_refusals (r : Result) : (s.answer r).refusals = s.refusals := rfl
@[simp] theorem State.answer_layer (r : Result) (n : Fin 4) : (s.answer r).layer n = s.layer n := rfl

/-! ### setScreenMode -/

@[simp] theorem State.setScreenMode_params (v : BitVec 3) : (s.setScreenMode v).params = s.params := rfl
@[simp] theorem State.setScreenMode_owner (v : BitVec 3) : (s.setScreenMode v).owner = s.owner := rfl
@[simp] theorem State.setScreenMode_regs (v : BitVec 3) : (s.setScreenMode v).regs = s.regs := rfl
@[simp] theorem State.setScreenMode_bg (v : BitVec 3) : (s.setScreenMode v).bg = s.bg := rfl
@[simp] theorem State.setScreenMode_screenMode (v : BitVec 3) : (s.setScreenMode v).screenMode = v := rfl
@[simp] theorem State.setScreenMode_mosaicSize (v : BitVec 3) : (s.setScreenMode v).mosaicSize = s.mosaicSize := rfl
@[simp] theorem State.setScreenMode_latch1 (v : BitVec 3) : (s.setScreenMode v).latch1 = s.latch1 := rfl
@[simp] theorem State.setScreenMode_latch2 (v : BitVec 3) : (s.setScreenMode v).latch2 = s.latch2 := rfl
@[simp] theorem State.setScreenMode_m7 (v : BitVec 3) : (s.setScreenMode v).m7 = s.m7 := rfl
@[simp] theorem State.setScreenMode_oam (v : BitVec 3) : (s.setScreenMode v).oam = s.oam := rfl
@[simp] theorem State.setScreenMode_bus (v : BitVec 3) : (s.setScreenMode v).bus = s.bus := rfl
@[simp] theorem State.setScreenMode_vram (v : BitVec 3) : (s.setScreenMode v).vram = s.vram := rfl
@[simp] theorem State.setScreenMode_draws (v : BitVec 3) : (s.setScreenMode v).draws = s.draws := rfl
@[simp] theorem State.setScreenMode_busLog (v : BitVec 3) : (s.setScreenMode v).busLog = s.busLog := rfl
@[simp] theorem State.setScreenMode_vramLog (v : BitVec 3) : (s.setScreenMode v).vramLog = s.vramLog := rfl
@[simp] theorem State.setScreenMode_inputs (v : BitVec 3) : (s.setScreenMode v).inputs = s.inputs := rfl
@[simp] theorem State.setScreenMode_result (v : BitVec 3) : (s.setScreenMode v).result = s.result := rfl
@[simp] theorem State.setScreenMode_faults (v : BitVec 3) : (s.setScreenMode v).faults = s.faults := rfl
@[simp] theorem State.setScreenMode_refusals (v : BitVec 3) : (s.setScreenMode v).refusals = s.refusals := rfl
@[simp] theorem State.setScreenMode_layer (v : BitVec 3) (n : Fin 4) : (s.setScreenMode v).layer n = s.layer n := rfl

/-! ### setMosaicSize -/

@[simp] theorem State.setMosaicSize_params (v : BitVec 4) : (s.setMosaicSize v).params = s.params := rfl
@[simp] theorem State.setMosaicSize_owner (v : BitVec 4) : (s.setMosaicSize v).owner = s.owner := rfl
@[simp] theorem State.setMosaicSize_regs (v : BitVec 4) : (s.setMosaicSize v).regs = s.regs := rfl
@[simp] theorem State.setMosaicSize_bg (v : BitVec 4) : (s.setMosaicSize v).bg = s.bg := rfl
@[simp] theorem State.setMosaicSize_screenMode (v : BitVec 4) : (s.setMosaicSize v).screenMode = s.screenMode := rfl
@[simp] theorem State.setMosaicSize_mosaicSize (v : BitVec 4) : (s.setMosaicSize v).mosaicSize = v := rfl
@[simp] theorem State.setMosaicSize_latch1 (v : BitVec 4) : (s.setMosaicSize v).latch1 = s.latch1 := rfl
@[simp] theorem State.setMosaicSize_latch2 (v : BitVec 4) : (s.setMosaicSize v).latch2 = s.latch2 := rfl
@[simp] theorem State.setMosaicSize_m7 (v : BitVec 4) : (s.setMosaicSize v).m7 = s.m7 := rfl
@[simp] theorem State.setMosaicSize_oam (v : BitVec 4) : (s.setMosaicSize v).oam = s.oam := rfl
@[simp] theorem State.setMosaicSize_bus (v : BitVec 4) : (s.setMosaicSize v).bus = s.bus := rfl
@[simp] theorem State.setMosaicSize_vram (v : BitVec 4) : (s.setMosaicSize v).vram = s.vram := rfl
@[simp] theorem State.setMosaicSize_draws (v : BitVec 4) : (s.setMosaicSize v).draws = s.draws := rfl
@[simp] theorem State.setMosaicSize_busLog (v : BitVec 4) : (s.setMosaicSize v).busLog = s.busLog := rfl
@[simp] theorem State.setMosaicSize_vramLog (v : BitVec 4) : (s.setMosaicSize v).vramLog = s.vramLog := rfl
@[simp] theorem State.setMosaicSize_inputs (v : BitVec 4) : (s.setMosaicSize v).inputs = s.inputs := rfl
@[simp] theorem State.setMosaicSize_result (v : BitVec 4) : (s.setMosaicSize v).result = s.result := rfl
@[simp] theorem State.setMosaicSize_faults (v : BitVec 4) : (s.setMosaicSize v).faults = s.faults := rfl
@[simp] theorem State.setMosaicSize_refusals (v : BitVec 4) : (s.setMosaicSize v).refusals = s.refusals := rfl
@[simp] theorem State.setMosaicSize_layer (v : BitVec 4) (n : Fin 4) : (s.setMosaicSize v).layer n = s.layer n := rfl

/-! ### setLatches -/

@[simp] theorem State.setLatches_params (a b : Byte) : (s.setLatches a b).params = s.params := rfl
@[simp] theorem State.setLatches_owner (a b : Byte) : (s.setLatches a b).owner = s.owner := rfl
@[simp] theorem State.setLatches_regs (a b : Byte) : (s.setLatches a b).regs = s.regs := rfl
@[simp] theorem State.setLatches_bg (a b : Byte) : (s.setLatches a b).bg = s.bg := rfl
@[simp] theorem State.setLatches_screenMode (a b : Byte) : (s.setLatches a b).screenMode = s.screenMode := rfl
@[simp] theorem State.setLatches_mosaicSize (a b : Byte) : (s.setLatches a b).mosaicSize = s.mosaicSize := rfl
@[simp] theorem State.setLatches_latch1 (a b : Byte) : (s.setLatches a b).latch1 = a := rfl
@[simp] theorem State.setLatches_latch2 (a b : Byte) : (s.setLatches a b).latch2 = b := rfl
@[simp] theorem State.setLatches_m7 (a b : Byte) : (s.setLatches a b).m7 = s.m7 := rfl
@[simp] theorem State.setLatches_oam (a b : Byte) : (s.setLatches a b).oam = s.oam := rfl
@[simp] theorem State.setLatches_bus (a b : Byte) : (s.setLatches a b).bus = s.bus := rfl
@[simp] theorem State.setLatches_vram (a b : Byte) : (s.setLatches a b).vram = s.vram := rfl
@[simp] theorem State.setLatches_draws (a b : Byte) : (s.setLatches a b).draws = s.draws := rfl
@[simp] theorem State.setLatches_busLog (a b : Byte) : (s.setLatches a b).busLog = s.busLog := rfl
@[simp] theorem State.setLatches_vramLog (a b : Byte) : (s.setLatches a b).vramLog = s.vramLog := rfl
@[simp] theorem State.setLatches_inputs (a b : Byte) : (s.setLatches a b).inputs = s.inputs := rfl
@[simp] theorem State.setLatches_result (a b : Byte) : (s.setLatches a b).result = s.result := rfl
@[simp] theorem State.setLatches_faults (a b : Byte) : (s.setLatches a b).faults = s.faults := rfl
@[simp] theorem State.setLatches_refusals (a b : Byte) : (s.setLatches a b).refusals = s.refusals := rfl
@[simp] theorem State.setLatches_layer (a b : Byte) (n : Fin 4) : (s.setLatches a b).layer n = s.layer n := rfl

/-! ### setM7 -/

@[simp] theorem State.setM7_params (m : Mode7) : (s.setM7 m).params = s.params := rfl
@[simp] theorem State.setM7_owner (m : Mode7) : (s.setM7 m).owner = s.owner := rfl
@[simp] theorem State.setM7_regs (m : Mode7) : (s.setM7 m).regs = s.regs := rfl
@[simp] theorem State.setM7_bg (m : Mode7) : (s.setM7 m).bg = s.bg := rfl
@[simp] theorem State.setM7_screenMode (m : Mode7) : (s.setM7 m).screenMode = s.screenMode := rfl
@[simp] theorem State.setM7_mosaicSize (m : Mode7) : (s.setM7 m).mosaicSize = s.mosaicSize := rfl
@[simp] theorem State.setM7_latch1 (m : Mode7) : (s.setM7 m).latch1 = s.latch1 := rfl
@[simp] theorem State.setM7_latch2 (m : Mode7) : (s.setM7 m).latch2 = s.latch2 := rfl
@[simp] theorem State.setM7_m7 (m : Mode7) : (s.setM7 m).m7 = m := rfl
@[simp] theorem State.setM7_oam (m : Mode7) : (s.setM7 m).oam = s.oam := rfl
@[simp] theorem State.setM7_bus (m : Mode7) : (s.setM7 m).bus = s.bus := rfl
@[simp] theorem State.setM7_vram (m : Mode7) : (s.setM7 m).vram = s.vram := rfl
@[simp] theorem State.setM7_draws (m : Mode7) : (s.setM7 m).draws = s.draws := rfl
@[simp] theorem State.setM7_busLog (m : Mode7) : (s.setM7 m).busLog = s.busLog := rfl
@[simp] theorem State.setM7_vramLog (m : Mode7) : (s.setM7 m).vramLog = s.vramLog := rfl
@[simp] theorem State.setM7_inputs (m : Mode7) : (s.setM7 m).inputs = s.inputs := rfl
@[simp] theorem State.setM7_result (m : Mode7) : (s.setM7 m).result = s.result := rfl
@[simp] theorem State.setM7_faults (m : Mode7) : (s.setM7 m).faults = s.faults := rfl
@[simp] theorem State.setM7_refusals (m : Mode7) : (s.setM7 m).refusals = s.refusals := rfl
@[simp] theorem State.setM7_layer (m : Mode7) (n : Fin 4) : (s.setM7 m).layer n = s.layer n := rfl

/-! ### setOam -/

@[simp] theorem State.setOam_params (o : Oam) : (s.setOam o).params = s.params := rfl
@[simp] theorem State.setOam_owner (o : Oam) : (s.setOam o).owner = s.owner := rfl
@[simp] theorem State.setOam_regs (o : Oam) : (s.setOam o).regs = s.regs := rfl
@[simp] theorem State.setOam_bg (o : Oam) : (s.setOam o).bg = s.bg := rfl
@[simp] theorem State.setOam_screenMode (o : Oam) : (s.setOam o).screenMode = s.screenMode := rfl
@[simp] theorem State.setOam_mosaicSize (o : Oam) : (s.setOam o).mosaicSize = s.mosaicSize := rfl
@[simp] theorem State.setOam_latch1 (o : Oam) : (s.setOam o).latch1 = s.latch1 := rfl
@[simp] theorem State.setOam_latch2 (o : Oam) : (s.setOam o).latch2 = s.latch2 := rfl
@[simp] theorem State.setOam_m7 (o : Oam) : (s.setOam o).m7 = s.m7 := rfl
@[simp] theorem State.setOam_oam (o : Oam) : (s.setOam o).oam = o := rfl
@[simp] theorem State.setOam_bus (o : Oam) : (s.setOam o).bus = s.bus := rfl
@[simp] theorem State.setOam_vram (o : Oam) : (s.setOam o).vram = s.vram := rfl
@[simp] theorem State.setOam_draws (o : Oam) : (s.setOam o).draws = s.draws := rfl
@[simp] theorem State.setOam_busLog (o : Oam) : (s.setOam o).busLog = s.busLog := rfl
@[simp] theorem State.setOam_vramLog (o : Oam) : (s.setOam o).vramLog = s.vramLog := rfl
@[simp] theorem State.setOam_inputs (o : Oam) : (s.setOam o).inputs = s.inputs := rfl
@[simp] theorem State.setOam_result (o : Oam) : (s.setOam o).result = s.result := rfl
@[simp] theorem State.setOam_faults (o : Oam) : (s.setOam o).faults = s.faults := rfl
@[simp] theorem State.setOam_refusals (o : Oam) : (s.setOam o).refusals = s.refusals := rfl
@[simp] theorem State.setOam_layer (o : Oam) (n : Fin 4) : (s.setOam o).layer n = s.layer n := rfl

/-! ### setRegs -/

@[simp] theorem State.setRegs_params (r : RegFile) : (s.setRegs r).params = s.params := rfl
@[simp] theorem State.setRegs_owner (r : RegFile) : (s.setRegs r).owner = s.owner := rfl
@[simp] theorem State.setRegs_regs (r : RegFile) : (s.setRegs r).regs = r := rfl
@[simp] theorem State.setRegs_bg (r : RegFile) : (s.setRegs r).bg = s.bg := rfl
@[simp] theorem State.setRegs_screenMode (r : RegFile) : (s.setRegs r).screenMode = s.screenMode := rfl
@[simp] theorem State.setRegs_mosaicSize (r : RegFile) : (s.setRegs r).mosaicSize = s.mosaicSize := rfl
@[simp] theorem State.setRegs_latch1 (r : RegFile) : (s.setRegs r).latch1 = s.latch1 := rfl
@[simp] theorem State.setRegs_latch2 (r : RegFile) : (s.setRegs r).latch2 = s.latch2 := rfl
@[simp] theorem State.setRegs_m7 (r : RegFile) : (s.setRegs r).m7 = s.m7 := rfl
@[simp] theorem State.setRegs_oam (r : RegFile) : (s.setRegs r).oam = s.oam := rfl
@[simp] theorem State.setRegs_bus (r : RegFile) : (s.setRegs r).bus = s.bus := rfl
@[simp] theorem State.setRegs_vram (r : RegFile) : (s.setRegs r).vram = s.vram := rfl
@[simp] theorem State.setRegs_draws (r : RegFile) : (s.setRegs r).draws = s.draws := rfl
@[simp] theorem State.setRegs_busLog (r : RegFile) : (s.setRegs r).busLog = s.busLog := rfl
@[simp] theorem State.setRegs_vramLog (r : RegFile) : (s.setRegs r).vramLog = s.vramLog := rfl
@[simp] theorem State.setRegs_inputs (r : RegFile) : (s.setRegs r).inputs = s.inputs := rfl
@[simp] theorem State.setRegs_result (r : RegFile) : (s.setRegs r).result = s.result := rfl
@[simp] theorem State.setRegs_faults (r : RegFile) : (s.setRegs r).faults = s.faults := rfl
@[simp] theorem State.setRegs_refusals (r : RegFile) : (s.setRegs r).refusals = s.refusals := rfl
@[simp] theorem State.setRegs_layer (r : RegFile) (n : Fin 4) : (s.setRegs r).layer n = s.layer n := rfl

/-! ### setBus -/

@[simp] theorem State.setBus_params (m : Memory) : (s.setBus m).params = s.params := rfl
@[simp] theorem State.setBus_owner (m : Memory) : (s.setBus m).owner = s.owner := rfl
@[simp] theorem State.setBus_regs (m : Memory) : (s.setBus m).regs = s.regs := rfl
@[simp] theorem State.setBus_bg (m : Memory) : (s.setBus m).bg = s.bg := rfl
@[simp] theorem State.setBus_screenMode (m : Memory) : (s.setBus m).screenMode = s.screenMode := rfl
@[simp] theorem State.setBus_mosaicSize (m : Memory) : (s.setBus m).mosaicSize = s.mosaicSize := rfl
@[simp] theorem State.setBus_latch1 (m : Memory) : (s.setBus m).latch1 = s.latch1 := rfl
@[simp] theorem State.setBus_latch2 (m : Memory) : (s.setBus m).latch2 = s.latch2 := rfl
@[simp] theorem State.setBus_m7 (m : Memory) : (s.setBus m).m7 = s.m7 := rfl
@[simp] theorem State.setBus_oam (m : Memory) : (s.setBus m).oam = s.oam := rfl
@[simp] theorem State.setBus_bus (m : Memory) : (s.setBus m).bus = m := rfl
@[simp] theorem State.setBus_vram (m : Memory) : (s.setBus m).vram = s.vram := rfl
@[simp] theorem State.setBus_draws (m : Memory) : (s.setBus m).draws = s.draws := rfl
@[simp] theorem State.setBus_busLog (m : Memory) : (s.setBus m).busLog = s.busLog := rfl
@[simp] theorem State.setBus_vramLog (m : Memory) : (s.setBus m).vramLog = s.vramLog := rfl
@[simp] theorem State.setBus_inputs (m : Memory) : (s.setBus m).inputs = s.inputs := rfl
@[simp] theorem State.setBus_result (m : Memory) : (s.setBus m).result = s.result := rfl
@[simp] theorem State.setBus_faults (m : Memory) : (s.setBus m).faults = s.faults := rfl
@[simp] theorem State.setBus_refusals (m : Memory) : (s.setBus m).refusals = s.refusals := rfl
@[simp] theorem State.setBus_layer (m : Memory) (n : Fin 4) : (s.setBus m).layer n = s.layer n := rfl

/-! ### setVram -/

@[simp] theorem State.setVram_params (m : Memory) : (s.setVram m).params = s.params := rfl
@[simp] theorem State.setVram_owner (m : Memory) : (s.setVram m).owner = s.owner := rfl
@[simp] theorem State.setVram_regs (m : Memory) : (s.setVram m).regs = s.regs := rfl
@[simp] theorem State.setVram_bg (m : Memory) : (s.setVram m).bg = s.bg := rfl
@[simp] theorem State.setVram_screenMode (m : Memory) : (s.setVram m).screenMode = s.screenMode := rfl
@[simp] theorem State.setVram_mosaicSize (m : Memory) : (s.setVram m).mosaicSize = s.mosaicSize := rfl
@[simp] theorem State.setVram_latch1 (m : Memory) : (s.setVram m).latch1 = s.latch1 := rfl
@[simp] theorem State.setVram_latch2 (m : Memory) : (s.setVram m).latch2 = s.latch2 := rfl
@[simp] theorem State.setVram_m7 (m : Memory) : (s.setVram m).m7 = s.m7 := rfl
@[simp] theorem State.setVram_oam (m : Memory) : (s.setVram m).oam = s.oam := rfl
@[simp] theorem State.setVram_bus (m : Memory) : (s.setVram m).bus = s.bus := rfl
@[simp] theorem State.setVram_vram (m : Memory) : (s.setVram m).vram = m := rfl
@[simp] theorem State.setVram_draws (m : Memory) : (s.setVram m).draws = s.draws := rfl
@[simp] theorem State.setVram_busLog (m : Memory) : (s.setVram m).busLog = s.busLog := rfl
@[simp] theorem State.setVram_vramLog (m : Memory) : (s.setVram m).vramLog = s.vramLog := rfl
@[simp] theorem State.setVram_inputs (m : Memory) : (s.setVram m).inputs = s.inputs := rfl
@[simp] theorem State.setVram_result (m : Memory) : (s.setVram m).result = s.result := rfl
@[simp] theorem State.setVram_faults (m : Memory) : (s.setVram m).faults = s.faults := rfl
@[simp] theorem State.setVram_refusals (m : Memory) : (s.setVram m).refusals = s.refusals := rfl
@[simp] theorem State.setVram_layer (m : Memory) (n : Fin 4) : (s.setVram m).layer n = s.layer n := rfl

/-! ### setInputs -/

@[simp] theorem State.setInputs_params (l : List Input) : (s.setInputs l).params = s.params := rfl
@[simp] theorem State.setInputs_owner (l : List Input) : (s.setInputs l).owner = s.owner := rfl
@[simp] theorem State.setInputs_regs (l : List Input) : (s.setInputs l).regs = s.regs := rfl
@[simp] theorem State.setInputs_bg (l : List Input) : (s.setInputs l).bg = s.bg := rfl
@[simp] theorem State.setInputs_screenMode (l : List Input) : (s.setInputs l).screenMode = s.screenMode := rfl
@[simp] theorem State.setInputs_mosaicSize (l : List Input) : (s.setInputs l).mosaicSize = s.mosaicSize := rfl
@[simp] theorem State.setInputs_latch1 (l : List Input) : (s.setInputs l).latch1 = s.latch1 := rfl
@[simp] theorem State.setInputs_latch2 (l : List Input) : (s.setInputs l).latch2 = s.latch2 := rfl
@[simp] theorem State.setInputs_m7 (l : List Input) : (s.setInputs l).m7 = s.m7 := rfl
@[simp] theorem State.setInputs_oam (l : List Input) : (s.setInputs l).oam = s.oam := rfl
@[simp] theorem State.setInputs_bus (l : List Input) : (s.setInputs l).bus = s.bus := rfl
@[simp] theorem State.setInputs_vram (l : List Input) : (s.setInputs l).vram = s.vram := rfl
@[simp] theorem State.setInputs_draws (l : List Input) : (s.setInputs l).draws = s.draws := rfl
@[simp] theorem State.setInputs_busLog (l : List Input) : (s.setInputs l).busLog = s.busLog := rfl
@[simp] theorem State.setInputs_vramLog (l : List Input) : (s.setInputs l).vramLog = s.vramLog := rfl
@[simp] theorem State.setInputs_inputs (l : List Input) : (s.setInputs l).inputs = l := rfl
@[simp] theorem State.setInputs_result (l : List Input) : (s.setInputs l).result = s.result := rfl
@[simp] theorem State.setInputs_faults (l : List Input) : (s.setInputs l).faults = s.faults := rfl
@[simp] theorem State.setInputs_refusals (l : List Input) : (s.setInputs l).refusals = s.refusals := rfl
@[simp] theorem State.setInputs_layer (l : List Input) (n : Fin 4) : (s.setInputs l).layer n = s.layer n := rfl

/-! ### logBusRead -/

@[simp] theorem State.logBusRead_params (a : Addr24) (b : Byte) : (s.logBusRead a b).params = s.params := rfl
@[simp] theorem State.logBusRead_owner (a : Addr24) (b : Byte) : (s.logBusRead a b).owner = s.owner := rfl
@[simp] theorem State.logBusRead_regs (a : Addr24) (b : Byte) : (s.logBusRead a b).regs = s.regs := rfl
@[simp] theorem State.logBusRead_bg (a : Addr24) (b : Byte) : (s.logBusRead a b).bg = s.bg := rfl
@[simp] theorem State.logBusRead_screenMode (a : Addr24) (b : Byte) : (s.logBusRead a b).screenMode = s.screenMode := rfl
@[simp] theorem State.logBusRead_mosaicSize (a : Addr24) (b : Byte) : (s.logBusRead a b).mosaicSize = s.mosaicSize := rfl
@[simp] theorem State.logBusRead_latch1 (a : Addr24) (b : Byte) : (s.logBusRead a b).latch1 = s.latch1 := rfl
@[simp] theorem State.logBusRead_latch2 (a : Addr24) (b : Byte) : (s.logBusRead a b).latch2 = s.latch2 := rfl
@[simp] theorem State.logBusRead_m7 (a : Addr24) (b : Byte) : (s.logBusRead a b).m7 = s.m7 := rfl
@[simp] theorem State.logBusRead_oam (a : Addr24) (b : Byte) : (s.logBusRead a b).oam = s.oam := rfl
@[simp] theorem State.logBusRead_bus (a : Addr24) (b : Byte) : (s.logBusRead a b).bus = s.bus := rfl
@[simp] theorem State.logBusRead_vram (a : Addr24) (b : Byte) : (s.logBusRead a b).vram = s.vram := rfl
@[simp] theorem State.logBusRead_draws (a : Addr24) (b : Byte) : (s.logBusRead a b).draws = s.draws + 1 := rfl
@[simp] theorem State.logBusRead_busLog (a : Addr24) (b : Byte) : (s.logBusRead a b).busLog = s.busLog ++ [(a, b)] := rfl
@[simp] theorem State.logBusRead_vramLog (a : Addr24) (b : Byte) : (s.logBusRead a b).vramLog = s.vramLog := rfl
@[simp] theorem State.logBusRead_inputs (a : Addr24) (b : Byte) : (s.logBusRead a b).inputs = s.inputs := rfl
@[simp] theorem State.logBusRead_result (a : Addr24) (b : Byte) : (s.logBusRead a b).result = s.result := rfl
@[simp] theorem State.logBusRead_faults (a : Addr24) (b : Byte) : (s.logBusRead a b).faults = s.faults := rfl
@[simp] theorem State.logBusRead_refusals (a : Addr24) (b : Byte) : (s.logBusRead a b).refusals = s.refusals := rfl
@[simp] theorem State.logBusRead_layer (a : Addr24) (b : Byte) (n : Fin 4) : (s.logBusRead a b).layer n = s.layer n := rfl

/-! ### logVramRead -/

@[simp] theorem State.logVramRead_params (a : Nat) (b : Byte) : (s.logVramRead a b).params = s.params := rfl
@[simp] theorem State.logVramRead_owner (a : Nat) (b : Byte) : (s.logVramRead a b).owner = s.owner := rfl
@[simp] theorem State.logVramRead_regs (a : Nat) (b : Byte) : (s.logVramRead a b).regs = s.regs := rfl
@[simp] theorem State.logVramRead_bg (a : Nat) (b : Byte) : (s.logVramRead a b).bg = s.bg := rfl
@[simp] theorem State.logVramRead_screenMode (a : Nat) (b : Byte) : (s.logVramRead a b).screenMode = s.screenMode := rfl
@[simp] theorem State.logVramRead_mosaicSize (a : Nat) (b : Byte) : (s.logVramRead a b).mosaicSize = s.mosaicSize := rfl
@[simp] theorem State.logVramRead_latch1 (a : Nat) (b : Byte) : (s.logVramRead a b).latch1 = s.latch1 := rfl
@[simp] theorem State.logVramRead_latch2 (a : Nat) (b : Byte) : (s.logVramRead a b).latch2 = s.latch2 := rfl
@[simp] theorem State.logVramRead_m7 (a : Nat) (b : Byte) : (s.logVramRead a b).m7 = s.m7 := rfl
@[simp] theorem State.logVramRead_oam (a : Nat) (b : Byte) : (s.logVramRead a b).oam = s.oam := rfl
@[simp] theorem State.logVramRead_bus (a : Nat) (b : Byte) : (s.logVramRead a b).bus = s.bus := rfl
@[simp] theorem State.logVramRead_vram (a : Nat) (b : Byte) : (s.logVramRead a b).vram = s.vram := rfl
@[simp] theorem State.logVramRead_draws (a : Nat) (b : Byte) : (s.logVramRead a b).draws = s.draws + 1 := rfl
@[simp] theorem State.logVramRead_busLog (a : Nat) (b : Byte) : (s.logVramRead a b).busLog = s.busLog := rfl
@[simp] theorem State.logVramRead_vramLog (a : Nat) (b : Byte) : (s.logVramRead a b).vramLog = s.vramLog ++ [(a, b)] := rfl
@[simp] theorem State.logVramRead_inputs (a : Nat) (b : Byte) : (s.logVramRead a b).inputs = s.inputs := rfl
@[simp] theorem State.logVramRead_result (a : Nat) (b : Byte) : (s.logVramRead a b).result = s.result := rfl
@[simp] theorem State.logVramRead_faults (a : Nat) (b : Byte) : (s.logVramRead a b).faults = s.faults := rfl
@[simp] theorem State.logVramRead_refusals (a : Nat) (b : Byte) : (s.logVramRead a b).refusals = s.refusals := rfl
@[simp] theorem State.logVramRead_layer (a : Nat) (b : Byte) (n : Fin 4) : (s.logVramRead a b).layer n = s.layer n := rfl

/-! ### reportFault -/

@[simp] theorem State.reportFault_params (f : Fault) : (s.reportFault f).params = s.params := rfl
@[simp] theorem State.reportFault_owner (f : Fault) : (s.reportFault f).owner = s.owner := rfl
@[simp] theorem State.reportFault_regs (f : Fault) : (s.reportFault f).regs = s.regs := rfl
@[simp] theorem State.reportFault_bg (f : Fault) : (s.reportFault f).bg = s.bg := rfl
@[simp] theorem State.reportFault_screenMode (f : Fault) : (s.reportFault f).screenMode = s.screenMode := rfl
@[simp] theorem State.reportFault_mosaicSize (f : Fault) : (s.reportFault f).mosaicSize = s.mosaicSize := rfl
@[simp] theorem State.reportFault_latch1 (f : Fault) : (s.reportFault f).latch1 = s.latch1 := rfl
@[simp] theorem State.reportFault_latch2 (f : Fault) : (s.reportFault f).latch2 = s.latch2 := rfl
@[simp] theorem State.reportFault_m7 (f : Fault) : (s.reportFault f).m7 = s.m7 := rfl
@[simp] theorem State.reportFault_oam (f : Fault) : (s.reportFault f).oam = s.oam := rfl
@[simp] theorem State.reportFault_bus (f : Fault) : (s.reportFault f).bus = s.bus := rfl
@[simp] theorem State.reportFault_vram (f : Fault) : (s.reportFault f).vram = s.vram := rfl
@[simp] theorem State.reportFault_draws (f : Fault) : (s.reportFault f).draws = s.draws := rfl
@[simp] theorem State.reportFault_busLog (f : Fault) : (s.reportFault f).busLog = s.busLog := rfl
@[simp] theorem State.reportFault_vramLog (f : Fault) : (s.reportFault f).vramLog = s.vramLog := rfl
@[simp] theorem State.reportFault_inputs (f : Fault) : (s.reportFault f).inputs = s.inputs := rfl
@[simp] theorem State.reportFault_result (f : Fault) : (s.reportFault f).result = .fault f := rfl
@[simp] theorem State.reportFault_faults (f : Fault) : (s.reportFault f).faults = s.faults ++ [f] := rfl
@[simp] theorem State.reportFault_refusals (f : Fault) : (s.reportFault f).refusals = s.refusals := rfl
@[simp] theorem State.reportFault_layer (f : Fault) (n : Fin 4) : (s.reportFault f).layer n = s.layer n := rfl

/-! ### reportRefusal -/

@[simp] theorem State.reportRefusal_params (q : Refusal) : (s.reportRefusal q).params = s.params := rfl
@[simp] theorem State.reportRefusal_owner (q : Refusal) : (s.reportRefusal q).owner = s.owner := rfl
@[simp] theorem State.reportRefusal_regs (q : Refusal) : (s.reportRefusal q).regs = s.regs := rfl
@[simp] theorem State.reportRefusal_bg (q : Refusal) : (s.reportRefusal q).bg = s.bg := rfl
@[simp] theorem State.reportRefusal_screenMode (q : Refusal) : (s.reportRefusal q).screenMode = s.screenMode := rfl
@[simp] theorem State.reportRefusal_mosaicSize (q : Refusal) : (s.reportRefusal q).mosaicSize = s.mosaicSize := rfl
@[simp] theorem State.reportRefusal_latch1 (q : Refusal) : (s.reportRefusal q).latch1 = s.latch1 := rfl
@[simp] theorem State.reportRefusal_latch2 (q : Refusal) : (s.reportRefusal q).latch2 = s.latch2 := rfl
@[simp] theorem State.reportRefusal_m7 (q : Refusal) : (s.reportRefusal q).m7 = s.m7 := rfl
@[simp] theorem State.reportRefusal_oam (q : Refusal) : (s.reportRefusal q).oam = s.oam := rfl
@[simp] theorem State.reportRefusal_bus (q : Refusal) : (s.reportRefusal q).bus = s.bus := rfl
@[simp] theorem State.reportRefusal_vram (q : Refusal) : (s.reportRefusal q).vram = s.vram := rfl
@[simp] theorem State.reportRefusal_draws (q : Refusal) : (s.reportRefusal q).draws = s.draws := rfl
@[simp] theorem State.reportRefusal_busLog (q : Refusal) : (s.reportRefusal q).busLog = s.busLog := rfl
@[simp] theorem State.reportRefusal_vramLog (q : Refusal) : (s.reportRefusal q).vramLog = s.vramLog := rfl
@[simp] theorem State.reportRefusal_inputs (q : Refusal) : (s.reportRefusal q).inputs = s.inputs := rfl
@[simp] theorem State.reportRefusal_result (q : Refusal) : (s.reportRefusal q).result = .refusal q := rfl
@[simp] theorem State.reportRefusal_faults (q : Refusal) : (s.reportRefusal q).faults = s.faults := rfl
@[simp] theorem State.reportRefusal_refusals (q : Refusal) : (s.reportRefusal q).refusals = s.refusals ++ [q] := rfl
@[simp] theorem State.reportRefusal_layer (q : Refusal) (n : Fin 4) : (s.reportRefusal q).layer n = s.layer n := rfl

/-! ### setLayer -/

@[simp] theorem State.setLayer_params (n : Fin 4) (r : BgRecord) : (s.setLayer n r).params = s.params := rfl
@[simp] theorem State.setLayer_owner (n : Fin 4) (r : BgRecord) : (s.setLayer n r).owner = s.owner := rfl
@[simp] theorem State.setLayer_regs (n : Fin 4) (r : BgRecord) : (s.setLayer n r).regs = s.regs := rfl
@[simp] theorem State.setLayer_screenMode (n : Fin 4) (r : BgRecord) : (s.setLayer n r).screenMode = s.screenMode := rfl
@[simp] theorem State.setLayer_mosaicSize (n : Fin 4) (r : BgRecord) : (s.setLayer n r).mosaicSize = s.mosaicSize := rfl
@[simp] theorem State.setLayer_latch1 (n : Fin 4) (r : BgRecord) : (s.setLayer n r).latch1 = s.latch1 := rfl
@[simp] theorem State.setLayer_latch2 (n : Fin 4) (r : BgRecord) : (s.setLayer n r).latch2 = s.latch2 := rfl
@[simp] theorem State.setLayer_m7 (n : Fin 4) (r : BgRecord) : (s.setLayer n r).m7 = s.m7 := rfl
@[simp] theorem State.setLayer_oam (n : Fin 4) (r : BgRecord) : (s.setLayer n r).oam = s.oam := rfl
@[simp] theorem State.setLayer_bus (n : Fin 4) (r : BgRecord) : (s.setLayer n r).bus = s.bus := rfl
@[simp] theorem State.setLayer_vram (n : Fin 4) (r : BgRecord) : (s.setLayer n r).vram = s.vram := rfl
@[simp] theorem State.setLayer_draws (n : Fin 4) (r : BgRecord) : (s.setLayer n r).draws = s.draws := rfl
@[simp] theorem State.setLayer_busLog (n : Fin 4) (r : BgRecord) : (s.setLayer n r).busLog = s.busLog := rfl
@[simp] theorem State.setLayer_vramLog (n : Fin 4) (r : BgRecord) : (s.setLayer n r).vramLog = s.vramLog := rfl
@[simp] theorem State.setLayer_inputs (n : Fin 4) (r : BgRecord) : (s.setLayer n r).inputs = s.inputs := rfl
@[simp] theorem State.setLayer_result (n : Fin 4) (r : BgRecord) : (s.setLayer n r).result = s.result := rfl
@[simp] theorem State.setLayer_faults (n : Fin 4) (r : BgRecord) : (s.setLayer n r).faults = s.faults := rfl
@[simp] theorem State.setLayer_refusals (n : Fin 4) (r : BgRecord) : (s.setLayer n r).refusals = s.refusals := rfl

/-! ### mapLayers -/

@[simp] theorem State.mapLayers_params (f : Fin 4 → BgRecord → BgRecord) : (s.mapLayers f).params = s.params := rfl
@[simp] theorem State.mapLayers_owner (f : Fin 4 → BgRecord → BgRecord) : (s.mapLayers f).owner = s.owner := rfl
@[simp] theorem State.mapLayers_regs (f : Fin 4 → BgRecord → BgRecord) : (s.mapLayers f).regs = s.regs := rfl
@[simp] theorem State.mapLayers_screenMode (f : Fin 4 → BgRecord → BgRecord) : (s.mapLayers f).screenMode = s.screenMode := rfl
@[simp] theorem State.mapLayers_mosaicSize (f : Fin 4 → BgRecord → BgRecord) : (s.mapLayers f).mosaicSize = s.mosaicSize := rfl
@[simp] theorem State.mapLayers_latch1 (f : Fin 4 → BgRecord → BgRecord) : (s.mapLayers f).latch1 = s.latch1 := rfl
@[simp] theorem State.mapLayers_latch2 (f : Fin 4 → BgRecord → BgRecord) : (s.mapLayers f).latch2 = s.latch2 := rfl
@[simp] theorem State.mapLayers_m7 (f : Fin 4 → BgRecord → BgRecord) : (s.mapLayers f).m7 = s.m7 := rfl
@[simp] theorem State.mapLayers_oam (f : Fin 4 → BgRecord → BgRecord) : (s.mapLayers f).oam = s.oam := rfl
@[simp] theorem State.mapLayers_bus (f : Fin 4 → BgRecord → BgRecord) : (s.mapLayers f).bus = s.bus := rfl
@[simp] theorem State.mapLayers_vram (f : Fin 4 → BgRecord → BgRecord) : (s.mapLayers f).vram = s.vram := rfl
@[simp] theorem State.mapLayers_draws (f : Fin 4 → BgRecord → BgRecord) : (s.mapLayers f).draws = s.draws := rfl
@[simp] theorem State.mapLayers_busLog (f : Fin 4 → BgRecord → BgRecord) : (s.mapLayers f).busLog = s.busLog := rfl
@[simp] theorem State.mapLayers_vramLog (f : Fin 4 → BgRecord → BgRecord) : (s.mapLayers f).vramLog = s.vramLog := rfl
@[simp] theorem State.mapLayers_inputs (f : Fin 4 → BgRecord → BgRecord) : (s.mapLayers f).inputs = s.inputs := rfl
@[simp] theorem State.mapLayers_result (f : Fin 4 → BgRecord → BgRecord) : (s.mapLayers f).result = s.result := rfl
@[simp] theorem State.mapLayers_faults (f : Fin 4 → BgRecord → BgRecord) : (s.mapLayers f).faults = s.faults := rfl
@[simp] theorem State.mapLayers_refusals (f : Fin 4 → BgRecord → BgRecord) : (s.mapLayers f).refusals = s.refusals := rfl

/-! ### The layer accessor -/

@[simp] theorem State.setLayer_layer_self (n : Fin 4) (r : BgRecord) : (s.setLayer n r).layer n = r := by
  simp [State.setLayer, State.layer]

theorem State.setLayer_layer_ne (n m : Fin 4) (r : BgRecord) (h : m ≠ n) :
    (s.setLayer n r).layer m = s.layer m := by
  have : n.val ≠ m.val := fun e => h (Fin.ext e.symm)
  simp [State.setLayer, State.layer, this]

theorem State.setLayer_layer (n m : Fin 4) (r : BgRecord) :
    (s.setLayer n r).layer m = if m = n then r else s.layer m := by
  by_cases h : m = n
  · subst h; simp
  · simp [h, State.setLayer_layer_ne]

@[simp] theorem State.mapLayers_layer (f : Fin 4 → BgRecord → BgRecord) (n : Fin 4) :
    (s.mapLayers f).layer n = f n (s.layer n) := by
  match n with
  | 0 => rfl
  | 1 => rfl
  | 2 => rfl
  | 3 => rfl

/-- Two states' records agree when they agree layer by layer. -/
theorem State.bg_ext {s t : State} (h : ∀ n, s.layer n = t.layer n) : s.bg = t.bg := by
  apply Vector.ext
  intro i hi
  exact h ⟨i, hi⟩

end Sys2Proof.Machine
end

