-- ==== Sys2Proof/Laws/Operands.lean ====
section
/-! SUPPORT. What each operand form and each external read does, once, in the naturals of Safety.lean. -/

namespace Sys2Proof.Machine

/-! ### Bits of a byte -/

theorem field_toNat (b : Byte) (lo w : Nat) : (field b lo w).toNat = b.toNat / 2 ^ lo % 2 ^ w := by
  simp [field, Nat.shiftRight_eq_div_pow]

theorem flagBit_eq (b : Byte) (i : Nat) : flagBit b i = b.toNat.testBit i := rfl

theorem layerBit_eq (b : Byte) (first : Nat) (n : Fin 4) : layerBit b first n = b.toNat.testBit (first + n.val) := rfl

/-! ### Register reads -/

theorem append_toNat {v w : Nat} (x : BitVec v) (y : BitVec w) : (x ++ y).toNat = x.toNat * 2 ^ w + y.toNat := by
  rw [BitVec.toNat_append, Nat.shiftLeft_eq, Nat.mul_comm, Nat.two_pow_add_eq_or_of_lt y.isLt]

theorem forcedRead_toNat (e : Bool) (forced : Byte) (v : BitVec 16) :
    (forcedRead e forced v).toNat = indexValue e forced v := by
  cases e
  · rfl
  · exact (append_toNat ..).trans (by simp [indexValue])

theorem idxX_toNat (p : Params) (r : RegFile) : (idxX p r).toNat = indexValue r.e p.forcedXH r.x :=
  forcedRead_toNat ..

theorem idxY_toNat (p : Params) (r : RegFile) : (idxY p r).toNat = indexValue r.e p.forcedYH r.y :=
  forcedRead_toNat ..

/-! ### Address arithmetic -/

theorem base24_toNat (bank : BitVec 8) (off : BitVec 16) :
    (base24 bank off).toNat = bank.toNat * 0x10000 + off.toNat := append_toNat ..

theorem add24_toNat (a : Addr24) (n : BitVec 16) : (add24 a n).toNat = (a.toNat + n.toNat) % 2 ^ 24 := by
  have := n.isLt
  simp only [add24, BitVec.toNat_add, BitVec.toNat_setWidth]
  omega

theorem special_iff (r : RegFile) : special r = true ↔ r.e = true ∧ r.d.toNat % 0x100 = 0 := by
  simp [special, ← BitVec.toNat_inj]

/-- R206: byte `k` of a direct-page location. -/
theorem dpByte_toNat (r : RegFile) (op8 : Byte) (i : BitVec 16) (k : Nat) :
    (dpByte r op8 i k).toNat = directPageAddress r op8.toNat i.toNat k := by
  have := op8.isLt
  have zero : (0x00 : BitVec 8).toNat = 0 := rfl
  unfold dpByte directPageAddress
  by_cases h : special r = true
  · rw [if_pos h, if_pos ((special_iff r).mp h)]
    simp only [base24_toNat, append_toNat, BitVec.toNat_add, BitVec.extractLsb'_toNat, BitVec.toNat_ofNat,
      Nat.shiftRight_eq_div_pow, zero, Nat.reducePow, Nat.div_one]
    have := r.d.isLt
    omega
  · rw [if_neg h, if_neg fun g => h ((special_iff r).mpr g)]
    simp only [base24_toNat, BitVec.toNat_add, BitVec.toNat_setWidth, BitVec.toNat_ofNat, zero, Nat.reducePow]
    omega

/-! ### External reads -/

theorem State.busByte_mayAnswer (s : State) (a : Addr24) : BusMayAnswer s a (s.busByte a) := by
  intro v h
  simp [State.busByte, h]

theorem State.vramByte_mayAnswer (s : State) (a : Nat) : VramMayAnswer s a (s.vramByte a) := by
  intro v h
  simp [State.vramByte, h]

/-- R212: everything `ptr16` does: two reads recorded in order, nothing else, and the pointer of their answers. -/
theorem State.ptr16_spec (s : State) (op8 : Byte) (i : BitVec 16) :
    ∃ b0 b1 : Byte, BusMayAnswer s (dpByte s.regs op8 i 0) b0 ∧ BusMayAnswer s (dpByte s.regs op8 i 1) b1 ∧
      s.ptr16 op8 i =
        (b1 ++ b0, (s.logBusRead (dpByte s.regs op8 i 0) b0).logBusRead (dpByte s.regs op8 i 1) b1) :=
  ⟨_, _, s.busByte_mayAnswer _,
    (s.logBusRead (dpByte s.regs op8 i 0) (s.busByte (dpByte s.regs op8 i 0))).busByte_mayAnswer _, rfl⟩

/-- R213: everything `ptr24` does. -/
theorem State.ptr24_spec (s : State) (op8 : Byte) (i : BitVec 16) :
    ∃ b0 b1 b2 : Byte, BusMayAnswer s (dpByte s.regs op8 i 0) b0 ∧ BusMayAnswer s (dpByte s.regs op8 i 1) b1 ∧
      BusMayAnswer s (dpByte s.regs op8 i 2) b2 ∧
      s.ptr24 op8 i =
        (b2 ++ (b1 ++ b0), ((s.logBusRead (dpByte s.regs op8 i 0) b0).logBusRead (dpByte s.regs op8 i 1)
          b1).logBusRead (dpByte s.regs op8 i 2) b2) := by
  let s0 := s.logBusRead (dpByte s.regs op8 i 0) (s.busByte (dpByte s.regs op8 i 0))
  let s1 := s0.logBusRead (dpByte s.regs op8 i 1) (s0.busByte (dpByte s.regs op8 i 1))
  exact ⟨_, _, _, s.busByte_mayAnswer _, s0.busByte_mayAnswer _, s1.busByte_mayAnswer _, rfl⟩

/-- R313: everything the read of a tilemap entry does. -/
theorem State.entryAt_spec (s : State) (a : Nat) :
    ∃ e0 e1 : Byte, VramMayAnswer s (s.vramAddr a) e0 ∧ VramMayAnswer s (s.vramAddr (a + 1)) e1 ∧
      s.entryAt a =
        (e1 ++ e0, (s.logVramRead (s.vramAddr a) e0).logVramRead (s.vramAddr (a + 1)) e1) := by
  let s0 := s.logVramRead (s.vramAddr a) (s.vramByte (s.vramAddr a))
  exact ⟨_, _, s.vramByte_mayAnswer _, s0.vramByte_mayAnswer _, rfl⟩

end Sys2Proof.Machine
end

