-- ==== Sys2Proof/Laws/PerInstr.lean ====
section
/-! SUPPORT. Statements made of every operation, one lemma per constructor of `Instr`. -/

namespace Sys2Proof.Laws.RoundTrip

open Sys2Proof.Machine

/-- The encoded request of an operation is one the interfaces define, and decodes to the operation. -/
def Statement (i : Instr) : Prop := (encode i).WellFormed = true ∧ decode (encode i) = .ok i

/-- R102: the operand bytes of an `op16` assemble to it. -/
theorem op16_bytes (op16 : BitVec 16) : op16OfBytes (op16.extractLsb' 0 8) (op16.extractLsb' 8 8) = op16 := by
  apply BitVec.eq_of_toNat_eq
  have := op16.isLt
  simp only [op16OfBytes, append_toNat, BitVec.extractLsb'_toNat, Nat.shiftRight_eq_div_pow]
  omega

/-- An ARE request with a 16-bit operand decodes to the operation its selector names (R101). -/
theorem decode_op16 {mode : BitVec 4} {make : BitVec 16 → Instr} (h : areMap.lookup mode = some (.op16 make))
    (op16 : BitVec 16) : decode (.are mode (bytesOfOp16 op16)) = .ok (make op16) := by
  simp [decode, decodeAre, h, bytesOfOp16, op16_bytes]

/-- The mode argument of an encoded query is the mode (R120). -/
theorem decodeMode_toNat (mode : BitVec 3) : decodeMode mode.toNat = .ok mode := by
  simp [decodeMode, mode.isLt]

/-- The layer argument of an encoded query is the layer (R120). -/
theorem decodeLayer_val (layer : Fin 4) : decodeLayer layer.val = .ok layer := by
  simp [decodeLayer, layer.isLt]

theorem abs (op16 : BitVec 16) : Statement (.abs op16) :=
  ⟨rfl, decode_op16 rfl op16⟩

theorem absx (op16 : BitVec 16) : Statement (.absx op16) :=
  ⟨rfl, decode_op16 rfl op16⟩

theorem absy (op16 : BitVec 16) : Statement (.absy op16) :=
  ⟨rfl, decode_op16 rfl op16⟩

theorem dp (op8 : Byte) : Statement (.dp op8) :=
  ⟨rfl, rfl⟩

theorem dpx (op8 : Byte) : Statement (.dpx op8) :=
  ⟨rfl, rfl⟩

theorem dpy (op8 : Byte) : Statement (.dpy op8) :=
  ⟨rfl, rfl⟩

theorem dpind (op8 : Byte) : Statement (.dpind op8) :=
  ⟨rfl, rfl⟩

theorem dpxind (op8 : Byte) : Statement (.dpxind op8) :=
  ⟨rfl, rfl⟩

theorem dpindy (op8 : Byte) : Statement (.dpindy op8) :=
  ⟨rfl, rfl⟩

theorem dpindl (op8 : Byte) : Statement (.dpindl op8) :=
  ⟨rfl, rfl⟩

theorem dpindly (op8 : Byte) : Statement (.dpindly op8) :=
  ⟨rfl, rfl⟩

theorem oamaddl (b : Byte) : Statement (.oamaddl b) :=
  ⟨rfl, rfl⟩

theorem oamaddh (b : Byte) : Statement (.oamaddh b) :=
  ⟨rfl, rfl⟩

theorem oamdata (b : Byte) : Statement (.oamdata b) :=
  ⟨rfl, rfl⟩

theorem bgmode (b : Byte) : Statement (.bgmode b) :=
  ⟨rfl, rfl⟩

theorem mosaic (b : Byte) : Statement (.mosaic b) :=
  ⟨rfl, rfl⟩

theorem bg1sc (b : Byte) : Statement (.bg1sc b) :=
  ⟨rfl, rfl⟩

theorem bg2sc (b : Byte) : Statement (.bg2sc b) :=
  ⟨rfl, rfl⟩

theorem bg3sc (b : Byte) : Statement (.bg3sc b) :=
  ⟨rfl, rfl⟩

theorem bg4sc (b : Byte) : Statement (.bg4sc b) :=
  ⟨rfl, rfl⟩

theorem bg12nba (b : Byte) : Statement (.bg12nba b) :=
  ⟨rfl, rfl⟩

theorem bg34nba (b : Byte) : Statement (.bg34nba b) :=
  ⟨rfl, rfl⟩

theorem bg1hofs (b : Byte) : Statement (.bg1hofs b) :=
  ⟨rfl, rfl⟩

theorem bg1vofs (b : Byte) : Statement (.bg1vofs b) :=
  ⟨rfl, rfl⟩

theorem bg2hofs (b : Byte) : Statement (.bg2hofs b) :=
  ⟨rfl, rfl⟩

theorem bg2vofs (b : Byte) : Statement (.bg2vofs b) :=
  ⟨rfl, rfl⟩

theorem bg3hofs (b : Byte) : Statement (.bg3hofs b) :=
  ⟨rfl, rfl⟩

theorem bg3vofs (b : Byte) : Statement (.bg3vofs b) :=
  ⟨rfl, rfl⟩

theorem bg4hofs (b : Byte) : Statement (.bg4hofs b) :=
  ⟨rfl, rfl⟩

theorem bg4vofs (b : Byte) : Statement (.bg4vofs b) :=
  ⟨rfl, rfl⟩

theorem m7sel (b : Byte) : Statement (.m7sel b) :=
  ⟨rfl, rfl⟩

theorem m7a (b : Byte) : Statement (.m7a b) :=
  ⟨rfl, rfl⟩

theorem m7b (b : Byte) : Statement (.m7b b) :=
  ⟨rfl, rfl⟩

theorem m7c (b : Byte) : Statement (.m7c b) :=
  ⟨rfl, rfl⟩

theorem m7d (b : Byte) : Statement (.m7d b) :=
  ⟨rfl, rfl⟩

theorem m7x (b : Byte) : Statement (.m7x b) :=
  ⟨rfl, rfl⟩

theorem m7y (b : Byte) : Statement (.m7y b) :=
  ⟨rfl, rfl⟩

theorem w12sel (b : Byte) : Statement (.w12sel b) :=
  ⟨rfl, rfl⟩

theorem w34sel (b : Byte) : Statement (.w34sel b) :=
  ⟨rfl, rfl⟩

theorem wbglog (b : Byte) : Statement (.wbglog b) :=
  ⟨rfl, rfl⟩

theorem tm (b : Byte) : Statement (.tm b) :=
  ⟨rfl, rfl⟩

theorem ts (b : Byte) : Statement (.ts b) :=
  ⟨rfl, rfl⟩

theorem tmw (b : Byte) : Statement (.tmw b) :=
  ⟨rfl, rfl⟩

theorem tsw (b : Byte) : Statement (.tsw b) :=
  ⟨rfl, rfl⟩

theorem cgadsub (b : Byte) : Statement (.cgadsub b) :=
  ⟨rfl, rfl⟩

theorem oamdataread : Statement .oamdataread :=
  ⟨rfl, rfl⟩

theorem tmaddr (layer : Fin 4) (x y : Nat) : Statement (.tmaddr layer x y) :=
  ⟨by simp [encode, Request.WellFormed], by simp [encode, decode, decodeQuery, decodeLayer_val, Except.map]⟩

theorem tile (layer : Fin 4) (x y : Nat) : Statement (.tile layer x y) :=
  ⟨by simp [encode, Request.WellFormed], by simp [encode, decode, decodeQuery, decodeLayer_val, Except.map]⟩

theorem validbg (mode : BitVec 3) : Statement (.validbg mode) :=
  ⟨by simp [encode, Request.WellFormed, mode.isLt], by simp [encode, decode, decodeQuery, decodeMode_toNat, Except.map]⟩

theorem cdepth (mode : BitVec 3) (layer : Fin 4) : Statement (.cdepth mode layer) :=
  ⟨by simp [encode, Request.WellFormed, mode.isLt],
    by simp [encode, decode, decodeQuery, decodeMode_toNat, decodeLayer_val, Except.map, Except.bind]⟩

end Sys2Proof.Laws.RoundTrip
end

