-- ==== Sys2Proof/Laws/Units.lean ====
section
/-! SUPPORT. What the shared operations of the background, scroll, Mode-7, tile and OAM units do, once each. -/

namespace Sys2Proof.Machine

/-! ### Background -/

theorem State.setTilemap_layer (s : State) (n m : Fin 4) (b : Byte) :
    (s.setTilemap n b).layer m =
      if m = n then { s.layer n with tilemapBase := field b 2 6, screenSize := field b 0 2 } else s.layer m := by
  simp [State.setTilemap, State.setLayer_layer]

/-- R271: the color-depth table is the source's lists. -/
theorem colorDepth_eq_listedDepth (mode : BitVec 3) (layer : Fin 4) : colorDepth mode layer = listedDepth mode layer := by
  revert mode layer
  decide

/-! ### Scroll -/

theorem vValue_toNat (b latch1 : Byte) : (vValue b latch1).toNat = b.toNat % 4 * 256 + latch1.toNat :=
  (append_toNat (field b 0 2) latch1).trans (by simp [field_toNat])

/-- R290: the low byte of a horizontal value has `latch1`'s bits 7:3 and `latch2`'s bits 2:0. -/
theorem latchMix_toNat (latch1 latch2 : Byte) :
    ((latch1 &&& 0xF8) ||| (latch2 &&& 0x07)).toNat = latch1.toNat / 8 * 8 + latch2.toNat % 8 := by
  have high : ∀ l : Byte, (l &&& 0xF8).toNat = 2 ^ 3 * (l.toNat / 8) := by decide
  have low : ∀ l : Byte, (l &&& 0x07).toNat = l.toNat % 8 := by decide
  rw [BitVec.toNat_or, high, low, ← Nat.two_pow_add_eq_or_of_lt (Nat.mod_lt _ (by decide))]
  omega

theorem hValue_toNat (b latch1 latch2 : Byte) :
    (hValue b latch1 latch2).toNat = b.toNat % 4 * 256 + (latch1.toNat / 8 * 8 + latch2.toNat % 8) :=
  (append_toNat (field b 0 2) _).trans (by simp only [latchMix_toNat, field_toNat]; simp)

/-- R290: everything a horizontal transition does. -/
theorem State.hWrite_eq (s : State) (n : Fin 4) (b : Byte) :
    s.hWrite n b =
      { s with
        bg := s.bg.set n.val { s.layer n with hScroll := hValue b s.latch1 s.latch2 }
        latch1 := b
        latch2 := b } := rfl

/-- R291: everything a vertical transition does. -/
theorem State.vWrite_eq (s : State) (n : Fin 4) (b : Byte) :
    s.vWrite n b =
      { s with bg := s.bg.set n.val { s.layer n with vScroll := vValue b s.latch1 }, latch1 := b } := rfl

theorem State.hWrite_layer (s : State) (n m : Fin 4) (b : Byte) :
    (s.hWrite n b).layer m =
      if m = n then { s.layer n with hScroll := hValue b s.latch1 s.latch2 } else s.layer m := by
  simp [State.hWrite, State.setLayer_layer]

theorem State.vWrite_layer (s : State) (n m : Fin 4) (b : Byte) :
    (s.vWrite n b).layer m = if m = n then { s.layer n with vScroll := vValue b s.latch1 } else s.layer m := by
  simp [State.vWrite, State.setLayer_layer]

/-! ### Mode 7 -/

theorem Mode7.setParam_param (m : Mode7) (p q : M7Param) (v : BitVec 16) :
    (m.setParam p v).param q = if q = p then v else m.param q := by
  cases p <;> cases q <;> rfl

@[simp] theorem Mode7.setParam_cache (m : Mode7) (p : M7Param) (v : BitVec 16) : (m.setParam p v).cache = m.cache := by
  cases p <;> rfl

/-- R342: everything the cascade transition does. -/
theorem Mode7.cascade_spec (m : Mode7) (p : M7Param) (b : Byte) : CascadesInto p m b (m.cascade p b) := by
  have value : (b ++ m.cache.extractLsb' 0 8).toNat = b.toNat * 256 + m.cache.toNat % 256 :=
    (append_toNat ..).trans (by simp)
  have param (q : M7Param) :
      (m.cascade p b).param q = if q = p then b ++ m.cache.extractLsb' 0 8 else m.param q := by
    cases p <;> cases q <;> rfl
  refine ⟨?_, ?_, fun q hq => ?_, ?_, ?_, ?_⟩
  · simp only [param, if_pos, value]
  · simp only [Mode7.cascade, BitVec.toNat_setWidth]
    have := b.isLt
    omega
  · simp [param, hq]
  all_goals cases p <;> rfl

/-! ### Tile addressing -/

theorem quadrant_eq (code : BitVec 2) (x y : Nat) : quadrant code x y = quadrantIndex code.toNat x y := by
  have hx : x % 64 / 32 = if x % 64 ≥ 32 then 1 else 0 := by split <;> omega
  have hy : y % 64 / 32 = if y % 64 ≥ 32 then 1 else 0 := by split <;> omega
  have : code = 0 ∨ code = 1 ∨ code = 2 ∨ code = 3 := by revert code; decide
  have two : Nat.testBit 2 1 = true := rfl
  have three : Nat.testBit 3 1 = true := rfl
  have one : Nat.testBit 1 1 = false := rfl
  rcases this with rfl | rfl | rfl | rfl <;>
    simp [quadrant, quadrantIndex, hx, hy, BitVec.getLsbD, one, two, three]

theorem quadrantIndex_le (code x y : Nat) : quadrantIndex code x y ≤ 3 := by
  unfold quadrantIndex
  split <;> omega

theorem tilemapAddress_eq (r : BgRecord) (x y : Nat) :
    tilemapAddress r x y =
      (r.tilemapBase.toNat + quadrantIndex r.screenSize.toNat x y) * 2048 + y % 32 * 64 + x % 32 * 2 := by
  simp only [tilemapAddress, quadrant_eq, Nat.shiftLeft_eq]
  omega

/-! ### OAM -/

theorem Oam.byteAt_eq (o : Oam) (i : Nat) : Memory.read .oam o.bytes i = some (o.byteAt i) := by
  unfold Oam.byteAt Memory.read
  cases Memory.find o.bytes i <;> rfl

theorem Oam.byteAt_setByte (o : Oam) (i k : Nat) (b : Byte) :
    (o.setByte i b).byteAt k = if k = i then b else o.byteAt k := by
  by_cases h : k = i
  · subst h
    simp [Oam.byteAt, Oam.setByte, Memory.read_write_self]
  · simp [Oam.byteAt, Oam.setByte, Memory.read_write_ne, h]

/-- R362: the position advances by one, modulo 1024. -/
theorem Oam.advance_position (o : Oam) : o.advance.position = (o.position + 1) % 1024 := by
  have := o.word.isLt
  cases h : o.flip <;> simp [Oam.advance, Oam.position, Oam.wordPosition, h] <;> omega

@[simp] theorem Oam.advance_bytes (o : Oam) : o.advance.bytes = o.bytes := by unfold Oam.advance; split <;> rfl

@[simp] theorem Oam.advance_byteAt (o : Oam) (i : Nat) : o.advance.byteAt i = o.byteAt i := by simp [Oam.byteAt]

@[simp] theorem Oam.advance_latch (o : Oam) : o.advance.latch = o.latch := by unfold Oam.advance; split <;> rfl

@[simp] theorem Oam.advance_addrReg (o : Oam) : o.advance.addrReg = o.addrReg := by unfold Oam.advance; split <;> rfl

@[simp] theorem Oam.advance_prioRot (o : Oam) : o.advance.prioRot = o.prioRot := by unfold Oam.advance; split <;> rfl

@[simp] theorem Oam.advance_last (o : Oam) : o.advance.last = o.last := by unfold Oam.advance; split <;> rfl

/-- R363: the commit writes two bytes of OAM and nothing else. -/
theorem Oam.commit_byteAt (o : Oam) (b : Byte) (k : Nat) :
    (o.commit b).byteAt k =
      if k = o.wordPosition + 1 then b else if k = o.wordPosition then o.latch else o.byteAt k := by
  simp [Oam.commit, Oam.byteAt_setByte]

theorem Oam.commit_registers (o : Oam) (b : Byte) : o.commit b = { o with bytes := (o.commit b).bytes } := rfl

/-- A commit within the array keeps the canonical form. -/
theorem Oam.commit_wf (o : Oam) (b : Byte) (inside : o.wordPosition + 1 < Config.oamSize)
    (h : Memory.wf .oam Config.oamSize o.bytes) : Memory.wf .oam Config.oamSize (o.commit b).bytes :=
  Memory.wf_write _ inside (Memory.wf_write _ (by omega) h)

/-! ### What the operations that can fail change when they do not -/

/-- R313: TILE changes the result and what its reads record. -/
theorem execTile_only {layer : Fin 4} {x y : Nat} {s t : State} (h : execTile layer x y s = .next t) :
    t = { s with result := t.result, vramLog := t.vramLog, draws := t.draws } := by
  unfold execTile at h
  split at h <;> cases h
  rfl

/-- R271: CDEPTH changes the result. -/
theorem execCdepth_only {mode : BitVec 3} {layer : Fin 4} {s t : State} (h : execCdepth mode layer s = .next t) :
    t = { s with result := t.result } := by
  unfold execCdepth at h
  split at h <;> cases h
  rfl

/-- R363: OAMDATA changes the result and the OAM Unit. -/
theorem execOamdata_only {b : Byte} {s t : State} (h : execOamdata b s = .next t) :
    t = { s with result := t.result, oam := t.oam } := by
  unfold execOamdata at h
  split at h
  · split at h <;> cases h
    rfl
  · cases h
    rfl

/-- R365: OAMDATAREAD changes the result and the OAM Unit. -/
theorem execOamdataread_only {s t : State} (h : execOamdataread s = .next t) :
    t = { s with result := t.result, oam := t.oam } := by
  unfold execOamdataread at h
  split at h <;> cases h
  rfl

end Sys2Proof.Machine
end

