-- ==== Sys2Proof/Laws/Runs.lean ====
section
/-! SUPPORT. Sequences of operations: what every operation of a sequence keeps, the sequence keeps; what keeps the scroll
latches, and what keeps the Mode-7 cache and parameters. -/

namespace Sys2Proof.Machine

/-- Induction over a sequence: a property of the state that each of its operations keeps holds at its end. -/
theorem runOps_keeps {P : State → Prop} {ops : List Instr} {s t : State}
    (keeps : ∀ i ∈ ops, ∀ u v, P u → exec i u = .next v → P v) (start : P s) (run : Safety.runOps ops s = .next t) :
    P t := by
  induction ops generalizing s with
  | nil => cases run; exact start
  | cons i ops ih =>
    unfold Safety.runOps at run
    split at run
    · rename_i u first
      exact ih (fun j hj => keeps j (List.mem_cons_of_mem _ hj)) (keeps i List.mem_cons_self s u start first) run
    · cases run
    · cases run

/-- R290 to R299: only a scroll write changes a latch. -/
theorem exec_keeps_latches {i : Instr} {s t : State} (other : ¬ IsScrollWrite i) (h : exec i s = .next t) :
    SameLatches s t := by
  have notH (n : Fin 4) (b : Byte) : i ≠ hScrollWrite n b := fun e => other ⟨n, b, .inl e⟩
  have notV (n : Fin 4) (b : Byte) : i ≠ vScrollWrite n b := fun e => other ⟨n, b, .inr e⟩
  cases i
  case bg1hofs b => exact absurd rfl (notH 0 b)
  case bg2hofs b => exact absurd rfl (notH 1 b)
  case bg3hofs b => exact absurd rfl (notH 2 b)
  case bg4hofs b => exact absurd rfl (notH 3 b)
  case bg1vofs b => exact absurd rfl (notV 0 b)
  case bg2vofs b => exact absurd rfl (notV 1 b)
  case bg3vofs b => exact absurd rfl (notV 2 b)
  case bg4vofs b => exact absurd rfl (notV 3 b)
  case tile => rw [execTile_only h]; exact ⟨rfl, rfl⟩
  case cdepth => rw [execCdepth_only h]; exact ⟨rfl, rfl⟩
  case oamdata => rw [execOamdata_only h]; exact ⟨rfl, rfl⟩
  case oamdataread => rw [execOamdataread_only h]; exact ⟨rfl, rfl⟩
  all_goals
    cases h
    exact ⟨rfl, rfl⟩

/-- R342 to R349: only a cascade write changes the cache or a parameter; M7SEL changes the settings alone (R340). -/
theorem exec_keeps_cascade {i : Instr} {s t : State} (other : ¬ IsCascadeWrite i) (h : exec i s = .next t) :
    t.m7.cache = s.m7.cache ∧ ∀ p, t.m7.param p = s.m7.param p := by
  have notC (p : M7Param) (b : Byte) : i ≠ cascadeWrite p b := fun e => other ⟨p, b, e⟩
  cases i
  case m7a b => exact absurd rfl (notC .a b)
  case m7b b => exact absurd rfl (notC .b b)
  case m7c b => exact absurd rfl (notC .c b)
  case m7d b => exact absurd rfl (notC .d b)
  case m7x b => exact absurd rfl (notC .x b)
  case m7y b => exact absurd rfl (notC .y b)
  case bg1hofs b => exact absurd rfl (notC .hofs b)
  case bg1vofs b => exact absurd rfl (notC .vofs b)
  case m7sel =>
    cases h
    exact ⟨rfl, fun p => by cases p <;> rfl⟩
  case tile => rw [execTile_only h]; exact ⟨rfl, fun _ => rfl⟩
  case cdepth => rw [execCdepth_only h]; exact ⟨rfl, fun _ => rfl⟩
  case oamdata => rw [execOamdata_only h]; exact ⟨rfl, fun _ => rfl⟩
  case oamdataread => rw [execOamdataread_only h]; exact ⟨rfl, fun _ => rfl⟩
  all_goals
    cases h
    exact ⟨rfl, fun _ => rfl⟩

end Sys2Proof.Machine
end

