-- ==== Sys2Proof/Laws/Step.lean ====
section
/-! SUPPORT. Everything one step can do: the interfaces' answer to the input that waits first. -/

namespace Sys2Proof.Machine

/-- The state without the input that waits first. -/
theorem State.setInputs_eq (s : State) (l : List Input) : s.setInputs l = { s with inputs := l } := rfl

/-- A request from the owner that decodes runs as its operation. -/
theorem acceptRequest_ok {s : State} {r : Request} {i : Instr} (h : decode r = .ok i) :
    acceptRequest s s.owner r = .run i s := by
  simp [acceptRequest, h]

/-- A request from the owner that does not decode is refused and changes nothing else. -/
theorem acceptRequest_error {s : State} {r : Request} {why : DecodeError} (h : decode r = .error why) :
    acceptRequest s s.owner r = .done (s.reportRefusal (.undefinedRequest why)) := by
  simp [acceptRequest, h]

/-- A request from another machine is refused and changes nothing else. -/
theorem acceptRequest_foreign {s : State} {caller : Nat} {r : Request} (h : caller ≠ s.owner) :
    acceptRequest s caller r = .done (s.reportRefusal (.sharedUse caller)) := by
  simp [acceptRequest, h]

/-- The cases of one step, by what waits first. -/
theorem step_cases {s t : State} (h : step s = .next t) :
    (s.inputs = [] ∧ t = s) ∨
    (∃ regs rest, s.inputs = .registers regs :: rest ∧ t = (s.setInputs rest).setRegs regs) ∨
    (∃ a v rest, s.inputs = .busCell a v :: rest ∧
      t = (s.setInputs rest).setBus (Memory.put .bus s.bus a.toNat v)) ∨
    (∃ a v rest, s.inputs = .vramCell a v :: rest ∧
      t = (s.setInputs rest).setVram (Memory.put .vram s.vram (s.vramAddr a) v)) ∨
    (∃ caller r rest q, s.inputs = .request caller r :: rest ∧ t = (s.setInputs rest).reportRefusal q) ∨
    (∃ r rest i, s.inputs = .request s.owner r :: rest ∧ decode r = .ok i ∧
      (exec i (s.setInputs rest) = .next t ∨
        ∃ f, exec i (s.setInputs rest) = .fault f ∧ t = (s.setInputs rest).reportFault f)) := by
  unfold step takeInput at h
  split at h
  · rename_i idle
    split at idle
    · rename_i none
      cases h
      exact .inl ⟨none, rfl⟩
    · unfold acceptRequest at idle
      split at idle
      · split at idle <;> cases idle
      · cases idle
    all_goals cases idle
  · rename_i done
    cases h
    split at done
    · cases done
    · rename_i caller r rest first
      refine .inr (.inr (.inr (.inr (.inl ⟨caller, r, rest, ?_⟩))))
      unfold acceptRequest at done
      split at done
      · split at done
        · cases done
        · cases done
          exact ⟨_, first, rfl⟩
      · cases done
        exact ⟨_, first, rfl⟩
    · rename_i regs rest first
      cases done
      exact .inr (.inl ⟨regs, rest, first, rfl⟩)
    · rename_i a v rest first
      cases done
      exact .inr (.inr (.inl ⟨a, v, rest, first, rfl⟩))
    · rename_i a v rest first
      cases done
      exact .inr (.inr (.inr (.inl ⟨a, v, rest, first, rfl⟩)))
  · rename_i i u run
    split at run
    · cases run
    · rename_i caller r rest first
      unfold acceptRequest at run
      split at run
      · rename_i own
        split at run
        · rename_i decoded
          cases run
          refine .inr (.inr (.inr (.inr (.inr ⟨r, rest, i, by rw [first, own]; rfl, decoded, ?_⟩))))
          unfold settle at h
          split at h
          · rename_i e
            cases h
            exact .inl e
          · rename_i f e
            cases h
            exact .inr ⟨f, e, rfl⟩
          · cases h
        · cases run
      · cases run
    all_goals cases run

end Sys2Proof.Machine
end

