-- ==== Sys2Proof/Tests/Slice0.lean ====
section
/-! SUPPORT. The model's own tests. Expected values are the spec's: the request tables of 30_encoding.md (R101, R110,
R120) and the vectors of 95_test_vectors.md, whose numbers W<n>, V<n> and P<n> the comments name. After them, for every
statement with hypotheses, a state and operands that meet them. -/

namespace Sys2Proof.Tests

open Sys2Proof Sys2Proof.Machine

/-! ### Small states -/

/-- A register file with the five registers the block reads. -/
def regs (e : Bool) (d : BitVec 16) (dbr : BitVec 8) (x y : BitVec 16) : RegFile :=
  { RegFile.reset with e := e, d := d, dbr := dbr, x := x, y := y }

/-- The construction state with a register file. -/
def withRegs (r : RegFile) : State := State.reset.setRegs r

/-- The construction state with a register file and Memory Bus bytes, in address order. -/
def withBus (r : RegFile) (bus : Memory) : State := (withRegs r).setBus bus

/-- The construction state with both scroll latches given. -/
def latches (latch1 latch2 : Byte) : State := State.reset.setLatches latch1 latch2

/-- The construction state with the Mode-7 cache given. -/
def cached (cache : BitVec 16) : State := State.reset.setM7 { Mode7.zero with cache := cache }

/-- The construction state with an OAM pointer, parity and latch. -/
def oamAt (word : BitVec 9) (flip : Bool) (latch : Byte) : State :=
  State.reset.setOam { Oam.zero with word := word, flip := flip, latch := latch }

/-- A part of the next state, `none` where an operation does not answer one. -/
def seen {α : Type} (f : State → α) : Reply → Option α
  | .next t => some (f t)
  | .fault _ => none
  | .refused _ => none

/-- The fault an operation ends in, if it does. -/
def faulted : Reply → Option Fault
  | .next _ => none
  | .fault f => some f
  | .refused _ => none

/-- The addresses of the Memory Bus reads. -/
def busReads (t : State) : List Addr24 := t.busLog.map (·.1)

/-! ### Decoding -/

/-- R101: the eleven selectors; the operand bytes 0x34, 0x12 in fetch order are `op16` 0x1234 (R102). -/
theorem test_decode_are :
    decode (.are 0b0000 [0x34, 0x12]) = .ok (.abs 0x1234) ∧ decode (.are 0b0001 [0x34, 0x12]) = .ok (.absx 0x1234) ∧
    decode (.are 0b0010 [0x34, 0x12]) = .ok (.absy 0x1234) ∧ decode (.are 0b0011 [0x80]) = .ok (.dp 0x80) ∧
    decode (.are 0b0100 [0x80]) = .ok (.dpx 0x80) ∧ decode (.are 0b0101 [0x80]) = .ok (.dpy 0x80) ∧
    decode (.are 0b0110 [0x80]) = .ok (.dpind 0x80) ∧ decode (.are 0b0111 [0x80]) = .ok (.dpxind 0x80) ∧
    decode (.are 0b1000 [0x80]) = .ok (.dpindy 0x80) ∧ decode (.are 0b1001 [0x80]) = .ok (.dpindl 0x80) ∧
    decode (.are 0b1010 [0x80]) = .ok (.dpindly 0x80) := by decide

/-- R110: the OAM and background registers. -/
theorem test_decode_mmio_background :
    decode (.mmioWrite 0b0010000100000010 0x5A) = .ok (.oamaddl 0x5A) ∧
    decode (.mmioWrite 0b0010000100000011 0x5A) = .ok (.oamaddh 0x5A) ∧
    decode (.mmioWrite 0b0010000100000100 0x5A) = .ok (.oamdata 0x5A) ∧
    decode (.mmioWrite 0b0010000100000101 0x5A) = .ok (.bgmode 0x5A) ∧
    decode (.mmioWrite 0b0010000100000110 0x5A) = .ok (.mosaic 0x5A) ∧
    decode (.mmioWrite 0b0010000100000111 0x5A) = .ok (.bg1sc 0x5A) ∧
    decode (.mmioWrite 0b0010000100001000 0x5A) = .ok (.bg2sc 0x5A) ∧
    decode (.mmioWrite 0b0010000100001001 0x5A) = .ok (.bg3sc 0x5A) ∧
    decode (.mmioWrite 0b0010000100001010 0x5A) = .ok (.bg4sc 0x5A) ∧
    decode (.mmioWrite 0b0010000100001011 0x5A) = .ok (.bg12nba 0x5A) ∧
    decode (.mmioWrite 0b0010000100001100 0x5A) = .ok (.bg34nba 0x5A) ∧
    decode (.mmioRead 0b0010000100111000) = .ok .oamdataread := by decide

/-- R110: the scroll and Mode-7 registers. -/
theorem test_decode_mmio_scroll :
    decode (.mmioWrite 0x210D 0x5A) = .ok (.bg1hofs 0x5A) ∧ decode (.mmioWrite 0x210E 0x5A) = .ok (.bg1vofs 0x5A) ∧
    decode (.mmioWrite 0x210F 0x5A) = .ok (.bg2hofs 0x5A) ∧ decode (.mmioWrite 0x2110 0x5A) = .ok (.bg2vofs 0x5A) ∧
    decode (.mmioWrite 0x2111 0x5A) = .ok (.bg3hofs 0x5A) ∧ decode (.mmioWrite 0x2112 0x5A) = .ok (.bg3vofs 0x5A) ∧
    decode (.mmioWrite 0x2113 0x5A) = .ok (.bg4hofs 0x5A) ∧ decode (.mmioWrite 0x2114 0x5A) = .ok (.bg4vofs 0x5A) ∧
    decode (.mmioWrite 0x211A 0x5A) = .ok (.m7sel 0x5A) ∧ decode (.mmioWrite 0x211B 0x5A) = .ok (.m7a 0x5A) ∧
    decode (.mmioWrite 0x211C 0x5A) = .ok (.m7b 0x5A) ∧ decode (.mmioWrite 0x211D 0x5A) = .ok (.m7c 0x5A) ∧
    decode (.mmioWrite 0x211E 0x5A) = .ok (.m7d 0x5A) ∧ decode (.mmioWrite 0x211F 0x5A) = .ok (.m7x 0x5A) ∧
    decode (.mmioWrite 0x2120 0x5A) = .ok (.m7y 0x5A) := by decide

/-- R110: the window, screen and color-math registers. -/
theorem test_decode_mmio_screens :
    decode (.mmioWrite 0x2123 0x5A) = .ok (.w12sel 0x5A) ∧ decode (.mmioWrite 0x2124 0x5A) = .ok (.w34sel 0x5A) ∧
    decode (.mmioWrite 0x212A 0x5A) = .ok (.wbglog 0x5A) ∧ decode (.mmioWrite 0x212C 0x5A) = .ok (.tm 0x5A) ∧
    decode (.mmioWrite 0x212D 0x5A) = .ok (.ts 0x5A) ∧ decode (.mmioWrite 0x212E 0x5A) = .ok (.tmw 0x5A) ∧
    decode (.mmioWrite 0x212F 0x5A) = .ok (.tsw 0x5A) ∧ decode (.mmioWrite 0x2131 0x5A) = .ok (.cgadsub 0x5A) := by
  decide

/-- R120: the four queries, at the largest mode and layer. -/
theorem test_decode_query :
    decode (.query 0b00 [3, 64, 1000]) = .ok (.tmaddr 3 64 1000) ∧ decode (.query 0b01 [3, 2, 5]) = .ok (.tile 3 2 5) ∧
    decode (.query 0b10 [7]) = .ok (.validbg 7) ∧ decode (.query 0b11 [7, 3]) = .ok (.cdepth 7 3) := by decide

/-- V13, R103, R110, R111, R120: one ill-formed request for each check, refused by the check and by the decoder. -/
theorem test_ill_formed_requests :
    (([.are 0xB [0x00], .are 0xF [0x00, 0x00], .are 0x0 [0x00], .are 0x2 [], .are 0x3 [0x00, 0x00], .are 0xA [],
      .mmioWrite 0x2101 0x00, .mmioWrite 0x2138 0x00, .mmioRead 0x2105, .mmioRead 0x2139, .query 0 [4, 0, 0],
      .query 1 [4, 0, 0], .query 2 [8], .query 3 [8, 0], .query 3 [0, 4], .query 0 [0, 0],
      .query 2 []] : List Request).all
        fun r => !r.WellFormed && (decode r).toOption.isNone) = true := by decide

/-- R111: the reason names the direction. -/
theorem test_refusal_names :
    decode (.mmioWrite 0x2138 0x00) = .error (.mmioUnmapped .write 0x2138) ∧
    decode (.are 0xB [0x00]) = .error (.areModeReserved 0xB) ∧
    decode (.are 0x0 [0x00]) = .error (.areOperandWidth 0x0 1) ∧
    decode (.query 3 [0, 4]) = .error (.queryLayer 4) := by decide

/-- The opcode table's words: an ARE selector with its operand above it, an MMIO address with the data above it, and the
one read register. -/
theorem test_table_words :
    decodeTableWord 8 0x0 = some (.abs 0) ∧ decodeTableWord 8 0xA = some (.dpindly 0) ∧
    decodeTableWord 16 0x2105 = some (.bgmode 0) ∧ decodeTableWord 24 0x192105 = some (.bgmode 0x19) ∧
    decodeTableWord 16 0x2138 = some .oamdataread ∧ decodeTableWord 2 3 = some (.cdepth 0 0) ∧
    decodeTableWord 8 0xB = none := by decide

/-- The step after `withFetchWord` is the operation of the word. -/
theorem test_fetch_word :
    seen (fun t => (t.screenMode, t.result, t.inputs)) (step (State.reset.withFetchWord 24 0x052105)) =
      some (5, .nothing, []) := by decide

/-! ### Address Resolution Engine -/

/-- W1: DBR = 0x12, op16 = 0xFFFF. -/
theorem test_abs_carries_into_the_bank :
    seen State.result (exec (.abs 0xFFFF) (withRegs (regs false 0 0x12 0 0))) = some (.pair 0x130000 0x12FFFF) := by decide

/-- V10: the address space wraps at its top, E without effect. -/
theorem test_abs_wraps :
    seen State.result (exec (.abs 0xFFFF) (withRegs (regs true 0 0xFF 0 0))) = some (.pair 0x000000 0xFFFFFF) := by decide

/-- W2. -/
theorem test_absx_native :
    seen State.result (exec (.absx 0xFFFE) (withRegs (regs false 0 0x12 0x000A 0))) = some (.pair 0x130009 0x130008) := by
  decide

/-- V10: under E = 1 only XL counts. -/
theorem test_absx_emulation :
    seen State.result (exec (.absx 0x1000) (withRegs (regs true 0 0x00 0x12FF 0))) = some (.pair 0x001100 0x0010FF) := by
  decide

/-- V10. -/
theorem test_absy_native :
    seen State.result (exec (.absy 0xFFF0) (withRegs (regs false 0 0x7E 0 0x0020))) = some (.pair 0x7F0011 0x7F0010) := by
  decide

/-- V10: under E = 1 only YL counts. -/
theorem test_absy_emulation :
    seen State.result (exec (.absy 0x0000) (withRegs (regs true 0 0x01 0 0xFF80))) = some (.pair 0x010081 0x010080) := by
  decide

/-- V11: the general path wraps modulo 2^16. -/
theorem test_dp_general :
    seen State.result (exec (.dp 0xFF) (withRegs (regs false 0xFF00 0 0 0))) = some (.pair 0x000000 0x00FFFF) := by decide

/-- V11: the special path wraps within the page. -/
theorem test_dp_special :
    seen State.result (exec (.dp 0xFF) (withRegs (regs true 0x0100 0 0 0))) = some (.pair 0x000100 0x0001FF) := by decide

/-- V11: DL = 0x01 takes the general path under E = 1. -/
theorem test_dpx_general :
    seen State.result (exec (.dpx 0xFF) (withRegs (regs true 0x0101 0 0x0005 0))) = some (.pair 0x000206 0x000205) := by
  decide

/-- P4 line 6. -/
theorem test_dpx_special :
    seen State.result (exec (.dpx 0xFF) (withRegs (regs true 0x0000 0x12 0x0101 0x0010))) =
      some (.pair 0x000001 0x000000) := by decide

/-- V11. -/
theorem test_dpy_general :
    seen State.result (exec (.dpy 0xF0) (withRegs (regs false 0x2000 0 0 0x0020))) = some (.pair 0x002111 0x002110) := by
  decide

/-- V11. -/
theorem test_dpy_special :
    seen State.result (exec (.dpy 0xF0) (withRegs (regs true 0x2000 0 0 0x0020))) = some (.pair 0x002011 0x002010) := by
  decide

/-- V12: the pointer bytes wrap from the top of bank 0; the result has the bank DBR. -/
theorem test_dpind_general :
    seen (fun t => (t.result, busReads t))
      (exec (.dpind 0xFF) (withBus (regs false 0xFF00 0x7E 0 0) [(0x0000, 0x80), (0xFFFF, 0x00)])) =
      some (.pointer 0x7E8000, [0x00FFFF, 0x000000]) := by decide

/-- V12: special path. -/
theorem test_dpind_special :
    seen (fun t => (t.result, busReads t))
      (exec (.dpind 0xFF) (withBus (regs true 0x0200 0x00 0 0) [(0x0200, 0xAB), (0x02FF, 0xCD)])) =
      some (.pointer 0x00ABCD, [0x0002FF, 0x000200]) := by decide

/-- W4: the index is added before the dereference. -/
theorem test_dpxind_general :
    seen (fun t => (t.result, busReads t))
      (exec (.dpxind 0x10) (withBus (regs false 0 0x00 0x000A 0) [(0x1A, 0x56), (0x1B, 0x34)])) =
      some (.pointer 0x003456, [0x00001A, 0x00001B]) := by decide

/-- P4 line 5. -/
theorem test_dpxind_special :
    seen (fun t => (t.result, busReads t))
      (exec (.dpxind 0xFE) (withBus (regs true 0 0x12 0x0101 0x0010) [(0x00, 0x34), (0xFF, 0x12)])) =
      some (.pointer 0x123412, [0x0000FF, 0x000000]) := by decide

/-- V12: Y is added after the dereference and carries into the bank. -/
theorem test_dpindy_native :
    seen (fun t => (t.result, busReads t))
      (exec (.dpindy 0x20) (withBus (regs false 0 0x12 0 0x0020) [(0x20, 0xF0), (0x21, 0xFF)])) =
      some (.pointer 0x130010, [0x000020, 0x000021]) := by decide

/-- V12: under E = 1 only YL. -/
theorem test_dpindy_emulation :
    seen State.result (exec (.dpindy 0x20) (withBus (regs true 0 0x7E 0 0x0105) [(0x20, 0x00), (0x21, 0x80)])) =
      some (.pointer 0x7E8005) := by decide

/-- V12. -/
theorem test_dpindl_general :
    seen (fun t => (t.result, busReads t))
      (exec (.dpindl 0xFE) (withBus (regs false 0x0300 0x55 0 0) [(0x3FE, 0x01), (0x3FF, 0x02), (0x400, 0x03)])) =
      some (.pointer 0x030201, [0x0003FE, 0x0003FF, 0x000400]) := by decide

/-- V12: the third byte wraps within the page. -/
theorem test_dpindl_special :
    seen (fun t => (t.result, busReads t))
      (exec (.dpindl 0xFE) (withBus (regs true 0x0300 0x55 0 0) [(0x300, 0x03), (0x3FE, 0x01), (0x3FF, 0x02)])) =
      some (.pointer 0x030201, [0x0003FE, 0x0003FF, 0x000300]) := by decide

/-- V12: the bank of the pointer takes the carry. -/
theorem test_dpindly_native :
    seen State.result
      (exec (.dpindly 0x40) (withBus (regs false 0 0x55 0 0xFFFF) [(0x40, 0x56), (0x41, 0x34), (0x42, 0x7E)])) =
      some (.pointer 0x7F3455) := by decide

/-- V12: under E = 1 only YL. -/
theorem test_dpindly_emulation :
    seen State.result
      (exec (.dpindly 0x40) (withBus (regs true 0 0x55 0 0xFFFF) [(0x40, 0x56), (0x41, 0x34), (0x42, 0x7E)])) =
      some (.pointer 0x7E3555) := by decide

/-! ### Background Configuration Unit (V20, V21) -/

theorem test_bgmode :
    seen (fun t => (t.screenMode, t.bg.toList.map fun r => (r.priority, r.tileSize16))) (exec (.bgmode 0x19) State.reset) =
      some (1, [(false, true), (false, false), (true, false), (false, false)]) := by decide

theorem test_mosaic :
    seen (fun t => (t.mosaicSize, t.bg.toList.map (·.mosaic))) (exec (.mosaic 0x35) State.reset) =
      some (3, [true, false, true, false]) := by decide

theorem test_bg1sc :
    seen (fun t => ((t.layer 0).tilemapBase, (t.layer 0).screenSize)) (exec (.bg1sc 0x0B) State.reset) = some (2, 3) := by
  decide

theorem test_bg2sc :
    seen (fun t => ((t.layer 1).tilemapBase, (t.layer 1).screenSize)) (exec (.bg2sc 0x7C) State.reset) = some (31, 0) := by
  decide

theorem test_bg3sc :
    seen (fun t => ((t.layer 2).tilemapBase, (t.layer 2).screenSize)) (exec (.bg3sc 0x01) State.reset) = some (0, 1) := by
  decide

theorem test_bg4sc :
    seen (fun t => ((t.layer 3).tilemapBase, (t.layer 3).screenSize)) (exec (.bg4sc 0xFE) State.reset) = some (63, 2) := by
  decide

theorem test_bg12nba :
    seen (fun t => t.bg.toList.map (·.tilesetBase)) (exec (.bg12nba 0x52) State.reset) = some [2, 5, 0, 0] := by decide

theorem test_bg34nba :
    seen (fun t => t.bg.toList.map (·.tilesetBase)) (exec (.bg34nba 0xF0) State.reset) = some [0, 0, 0, 15] := by decide

theorem test_w12sel :
    seen (fun t => t.bg.toList.map fun r => (r.win1Mask, r.win2Mask)) (exec (.w12sel 0x2C) State.reset) =
      some [(0, 3), (2, 0), (0, 0), (0, 0)] := by decide

theorem test_w34sel :
    seen (fun t => t.bg.toList.map fun r => (r.win1Mask, r.win2Mask)) (exec (.w34sel 0x03) State.reset) =
      some [(0, 0), (0, 0), (3, 0), (0, 0)] := by decide

theorem test_wbglog :
    seen (fun t => t.bg.toList.map (·.winLogic)) (exec (.wbglog 0xE4) State.reset) = some [0, 1, 2, 3] := by decide

theorem test_tm :
    seen (fun t => t.bg.toList.map (·.mainShow)) (exec (.tm 0x13) State.reset) = some [true, true, false, false] := by
  decide

theorem test_ts :
    seen (fun t => t.bg.toList.map (·.subShow)) (exec (.ts 0x04) State.reset) = some [false, false, true, false] := by
  decide

theorem test_tmw :
    seen (fun t => t.bg.toList.map (·.mainWindow)) (exec (.tmw 0x0F) State.reset) = some [true, true, true, true] := by
  decide

theorem test_tsw :
    seen (fun t => t.bg.toList.map (·.subWindow)) (exec (.tsw 0x08) State.reset) = some [false, false, false, true] := by
  decide

theorem test_cgadsub :
    seen (fun t => t.bg.toList.map (·.colorMath)) (exec (.cgadsub 0x81) State.reset) =
      some [true, false, false, false] := by decide

/-- W9, with the spec's reading of mode 6. -/
theorem test_validbg :
    ([0, 1, 5, 6, 7] : List (BitVec 3)).map (fun m => seen State.result (exec (.validbg m) State.reset)) =
      [some (.layers [0, 1, 2, 3]), some (.layers [0, 1, 2]), some (.layers [0, 1]), some (.layers [0]),
       some (.layers [0])] := by decide

/-- V21, the rows of modes 1 and 5 and the last cell of mode 7. -/
theorem test_cdepth :
    ([(1, 0), (1, 2), (5, 0), (5, 1), (7, 0)] : List (BitVec 3 × Fin 4)).map
      (fun c => seen State.result (exec (.cdepth c.1 c.2) State.reset)) =
      [some (.depth 4), some (.depth 2), some (.depth 4), some (.depth 2), some (.depth 8)] := by decide

theorem test_cdepth_error :
    ([(1, 3), (2, 2), (6, 1), (7, 3)] : List (BitVec 3 × Fin 4)).map
      (fun c => faulted (exec (.cdepth c.1 c.2) State.reset)) =
      [some (.configurationError 1 3), some (.configurationError 2 2), some (.configurationError 6 1),
       some (.configurationError 7 3)] := by decide

/-! ### Scroll Latch Chain (V30) -/

theorem test_bg1hofs :
    seen (fun t => ((t.layer 0).hScroll, t.m7.hofs, t.latch1, t.latch2)) (exec (.bg1hofs 0x05) (latches 0 0)) =
      some (0x100, 0x0500, 0x05, 0x05) := by decide

theorem test_bg1vofs :
    seen (fun t => ((t.layer 0).vScroll, t.m7.vofs, t.latch1, t.latch2)) (exec (.bg1vofs 0x01) (latches 0x34 0x34)) =
      some (0x134, 0x0100, 0x01, 0x34) := by decide

theorem test_bg2hofs :
    seen (fun t => ((t.layer 1).hScroll, t.latch1, t.latch2, t.m7)) (exec (.bg2hofs 0x00) (latches 0xF8 0x35)) =
      some (0x0FD, 0x00, 0x00, Mode7.zero) := by decide

theorem test_bg2vofs :
    seen (fun t => ((t.layer 1).vScroll, t.latch1, t.latch2)) (exec (.bg2vofs 0x03) (latches 0xC0 0x77)) =
      some (0x3C0, 0x03, 0x77) := by decide

theorem test_bg3hofs :
    seen (fun t => ((t.layer 2).hScroll, t.latch1, t.latch2)) (exec (.bg3hofs 0x03) (latches 0x12 0xFF)) =
      some (0x317, 0x03, 0x03) := by decide

theorem test_bg3vofs :
    seen (fun t => ((t.layer 2).vScroll, t.latch1, t.latch2)) (exec (.bg3vofs 0xFF) (latches 0x00 0x77)) =
      some (0x300, 0xFF, 0x77) := by decide

theorem test_bg4hofs :
    seen (fun t => ((t.layer 3).hScroll, t.latch1, t.latch2)) (exec (.bg4hofs 0xFC) (latches 0 0)) =
      some (0x000, 0xFC, 0xFC) := by decide

theorem test_bg4vofs :
    seen (fun t => ((t.layer 3).vScroll, t.latch1, t.latch2)) (exec (.bg4vofs 0x01) (latches 0xFC 0x77)) =
      some (0x1FC, 0x01, 0x77) := by decide

/-! ### Mode-7 Unit (V50) -/

theorem test_m7sel :
    seen (fun t => (t.m7.screenOver, t.m7.vFlip, t.m7.hFlip, t.m7.cache)) (exec (.m7sel 0x83) (cached 0x0034)) =
      some (2, true, true, 0x0034) := by decide

theorem test_m7a :
    seen (fun t => (t.m7.a, t.m7.cache)) (exec (.m7a 0x12) (cached 0x0034)) = some (0x1234, 0x0012) := by decide

theorem test_m7b : seen (fun t => t.m7.b) (exec (.m7b 0x80) (cached 0x0000)) = some 0x8000 := by decide

theorem test_m7c : seen (fun t => t.m7.c) (exec (.m7c 0xFF) (cached 0x00FF)) = some 0xFFFF := by decide

theorem test_m7d :
    seen (fun t => (t.m7.d, t.m7.cache)) (exec (.m7d 0x00) (cached 0x0001)) = some (0x0001, 0x0000) := by decide

theorem test_m7x : seen (fun t => t.m7.x) (exec (.m7x 0x00) (cached 0x0080)) = some 0x0080 := by decide

theorem test_m7y : seen (fun t => t.m7.y) (exec (.m7y 0x01) (cached 0x0070)) = some 0x0170 := by decide

/-! ### Tile and tilemap addressing -/

/-- The construction state with layer 0's tilemap base, screen size, tileset base, and VRAM bytes. -/
def tiles (mode : BitVec 3) (base : BitVec 6) (size : BitVec 2) (tileset : BitVec 4) (vram : Memory) : State :=
  ((State.reset.setScreenMode mode).setLayer 0
    { BgRecord.zero with tilemapBase := base, screenSize := size, tilesetBase := tileset }).setVram vram

/-- V40, W6: the point (40, 40) in the four screen sizes. -/
theorem test_tmaddr_quadrants :
    ([0, 1, 2, 3] : List (BitVec 2)).map
      (fun size => seen State.result (exec (.tmaddr 0 40 40) (tiles 0 0 size 0 []))) =
      [some (.address 0x0210), some (.address 0x0A10), some (.address 0x0A10), some (.address 0x1A10)] := by decide

/-- V40: the maximum, and the points (40, 8) and (8, 40) at size 3. -/
theorem test_tmaddr_points :
    seen State.result (exec (.tmaddr 0 63 63) (tiles 0 63 3 0 [])) = some (.address 0x217FE) ∧
    seen State.result (exec (.tmaddr 0 40 8) (tiles 0 0 3 0 [])) = some (.address 0x0A10) ∧
    seen State.result (exec (.tmaddr 0 8 40) (tiles 0 0 3 0 [])) = some (.address 0x1210) ∧
    seen State.result (exec (.tmaddr 0 72 8) (tiles 0 0 3 0 [])) = some (.address 0x0210) := by decide

/-- V41, first row. -/
theorem test_tile :
    seen (fun t => (t.result, t.vramLog))
      (exec (.tile 0 3 2) (tiles 1 1 0 2 [(0x886, 0x25), (0x887, 0xE5)])) =
      some (.tile { palette := 1, dataAddr := 0x64A0, depth := 4, hFlip := true, vFlip := true, priority := true,
                    width := 8, height := 8 }, [(0x886, 0x25), (0x887, 0xE5)]) := by decide

/-- V41: the reads are reduced modulo VRAM_SIZE; a layer without a color depth is a fault. -/
theorem test_tile_wraps_and_fails :
    seen (fun t => t.vramLog) (exec (.tile 0 63 63) (tiles 3 63 3 0 [(0x17FE, 0x01), (0x17FF, 0x02)])) =
      some [(0x17FE, 0x01), (0x17FF, 0x02)] ∧
    faulted (exec (.tile 1 0 0) (tiles 6 0 0 0 [])) = some (.configurationError 6 1) := by decide

/-! ### OAM Unit (V60) -/

/-- What the tests of the OAM Unit look at. -/
def oamView (t : State) : BitVec 9 × BitVec 9 × Bool × Byte × BitVec 9 × Bool :=
  (t.oam.addrReg, t.oam.word, t.oam.flip, t.oam.latch, t.oam.last, t.oam.prioRot)

theorem test_oamaddl :
    seen oamView (exec (.oamaddl 0x04) (State.reset.setOam { Oam.zero with addrReg := 0x1FF, word := 5 })) =
      some (0x104, 5, false, 0, 0, false) := by decide

theorem test_oamaddh :
    seen oamView (exec (.oamaddh 0x81)
      (State.reset.setOam { Oam.zero with addrReg := 0x004, word := 3, flip := true, latch := 0x33 })) =
      some (0x104, 0x104, false, 0x33, 260, true) := by decide

theorem test_oamdata_commits_the_last_word :
    seen (fun t => (t.oam.byteAt 542, t.oam.byteAt 543, t.oam.word, t.oam.flip))
      (exec (.oamdata 0x02) (oamAt 271 true 0x01)) = some (0x01, 0x02, 272, false) := by decide

theorem test_oamdata_beyond :
    seen oamView (exec (.oamdata 0xAA) (oamAt 272 false 0)) = some (0, 272, true, 0xAA, 0, false) ∧
    faulted (exec (.oamdata 0xBB) (oamAt 272 true 0xAA)) = some (.oamOutOfRange 544) := by decide

theorem test_oamdataread :
    seen (fun t => (t.result, t.oam.word, t.oam.flip))
      (exec .oamdataread (State.reset.setOam { Oam.zero with bytes := [(0, 0x11), (1, 0x22)], flip := true })) =
      some (.byte 0x22, 1, false) := by decide

theorem test_oamdataread_beyond :
    faulted (exec .oamdataread (oamAt 272 false 0)) = some (.oamOutOfRange 544) := by decide

/-! ### States and operands that meet the hypotheses of the statements -/

/-- The construction state with a request of its owner and one more input waiting. -/
def asked (r : Request) : State := State.reset.setInputs [.request 0 r, .registers RegFile.reset]

/-- `StepRunsTheDecodedOperation`: an operation that completes and one that ends in a fault. -/
theorem witness_step_runs :
    (asked (.mmioWrite 0x2105 0x01)).inputs = .request State.reset.owner (.mmioWrite 0x2105 0x01) ::
      [.registers RegFile.reset] ∧
    decode (.mmioWrite 0x2105 0x01) = .ok (.bgmode 0x01) ∧
    (∃ t, exec (.bgmode 0x01) { asked (.mmioWrite 0x2105 0x01) with inputs := [.registers RegFile.reset] } = .next t) ∧
    (asked (.query 3 [1, 3])).inputs = .request State.reset.owner (.query 3 [1, 3]) :: [.registers RegFile.reset] ∧
    decode (.query 3 [1, 3]) = .ok (.cdepth 1 3) ∧
    exec (.cdepth 1 3) { asked (.query 3 [1, 3]) with inputs := [.registers RegFile.reset] } =
      .fault (.configurationError 1 3) :=
  ⟨rfl, rfl, ⟨_, rfl⟩, rfl, rfl, rfl⟩

/-- `UndefinedRequestsAreRefusedWithoutEffect`, `ForeignRequestsAreRefusedWithoutEffect`. -/
theorem witness_refused :
    (asked (.are 0xB [0x00])).inputs = .request 0 (.are 0xB [0x00]) :: [.registers RegFile.reset] ∧
    (Request.are 0xB [0x00]).WellFormed = false ∧
    (State.reset.setInputs [.request 1 (.mmioRead 0x2138)]).inputs = .request 1 (.mmioRead 0x2138) :: [] ∧
    1 ≠ State.reset.owner := by decide

/-- `OutsideChangesReachLaterRequests`: nothing waiting, and each kind of change, at the last address of its space. -/
theorem witness_outside_changes :
    State.reset.inputs = [] ∧
    (State.reset.setInputs [.registers (regs false 1 2 3 4)]).inputs = .registers (regs false 1 2 3 4) :: [] ∧
    (State.reset.setInputs [.busCell 0xFFFFFF (some 0x12)]).inputs = .busCell 0xFFFFFF (some 0x12) :: [] ∧
    (State.reset.setInputs [.vramCell 65536 none]).inputs = .vramCell 65536 none :: [] := by decide

/-- `EveryStepKeepsTheInvariant`: a state that meets it, with a byte of OAM listed, and its step. -/
theorem witness_invariant :
    Safety.Inv ((oamAt 271 true 0x01).offer (.mmioWrite 0x2104 0x02)) ∧
    ∃ t, step ((oamAt 271 true 0x01).offer (.mmioWrite 0x2104 0x02)) = .next t :=
  ⟨⟨by decide, by decide, by decide, by decide, by decide, by decide, by decide, by decide⟩, _, rfl⟩

/-- `ConstructionMeetsTheInvariant`: the default size of video memory, and the least. -/
theorem witness_vram_size : 0 < ({} : Params).vramSize ∧ 0 < ({ vramSize := 1 } : Params).vramSize := by decide

/-- `EveryStepEndsAfterBoundedReads`: the mode with the most reads, and a request that ends in a fault. -/
theorem witness_reads :
    (∃ t, exec (.dpindly 0xFF) State.reset = .next t) ∧ (∃ t, exec (.tile 0 0 0) State.reset = .next t) ∧
    (asked (.query 3 [7, 1])).inputs = .request State.reset.owner (encode (.cdepth 7 1)) :: [.registers RegFile.reset] ∧
    exec (.cdepth 7 1) { asked (.query 3 [7, 1]) with inputs := [.registers RegFile.reset] } =
      .fault (.configurationError 7 1) :=
  ⟨⟨_, rfl⟩, ⟨_, rfl⟩, rfl, rfl⟩

/-- `MissingColorDepthIsAConfigurationError`: the cells beside the last with a depth, and a request for one. -/
theorem witness_missing_depth :
    listedDepth 1 3 = none ∧ listedDepth 6 1 = none ∧ listedDepth (tiles 7 0 0 0 []).screenMode 1 = none ∧
    (asked (.query 3 [1, 3])).inputs = .request State.reset.owner (encode (.cdepth 1 3)) :: [.registers RegFile.reset] ∧
    exec (.cdepth 1 3) { asked (.query 3 [1, 3]) with inputs := [.registers RegFile.reset] } =
      .fault (.configurationError 1 3) :=
  ⟨by decide, by decide, by decide, rfl, rfl⟩

/-- `OamAccessBeyondTheArrayFaultsWithoutEffect`: the first position beyond the array, for both operations. -/
theorem witness_oam_beyond :
    (oamAt 272 true 0).oam.flip = true ∧ 544 ≤ (oamAt 272 true 0).oam.word.toNat * 2 ∧
    544 ≤ (oamAt 272 false 0).oam.word.toNat * 2 + (oamAt 272 false 0).oam.flip.toNat ∧
    ((oamAt 272 false 0).offer (.mmioRead 0x2138)).inputs = .request State.reset.owner (encode .oamdataread) :: [] ∧
    exec .oamdataread { (oamAt 272 false 0).offer (.mmioRead 0x2138) with inputs := [] } = .fault (.oamOutOfRange 544) :=
  ⟨rfl, by decide, by decide, rfl, rfl⟩

/-- `RecordedFaultsAndRefusalsAreNeverCleared`: a step that leaves a clean state, and one that records a fault. -/
theorem witness_clean :
    (∃ t, step (asked (.mmioWrite 0x2105 0x01)) = .next t ∧ Safety.Clean t) ∧
    seen State.faults (step (asked (.query 3 [1, 3]))) = some [.configurationError 1 3] :=
  ⟨⟨_, rfl, rfl, rfl⟩, rfl⟩

/-- `NoOperationWritesRegistersOrExternalMemory`, `OnlyIndirectModesReadTheBus`, `AccumulatorHalvesAreAliases`: each
addressing mode answers a next state; so do a write, a read and a query; three other operations make no bus read. -/
theorem witness_modes_complete :
    (∃ t, exec (.dpind 0) State.reset = .next t) ∧ (∃ t, exec (.dpxind 0) State.reset = .next t) ∧
    (∃ t, exec (.dpindy 0) State.reset = .next t) ∧ (∃ t, exec (.dpindl 0) State.reset = .next t) ∧
    (∃ t, exec (.dpindly 0) State.reset = .next t) ∧ (∃ t, exec (.abs 0) State.reset = .next t) ∧
    (∃ t, exec (.absx 0) State.reset = .next t) ∧ (∃ t, exec (.absy 0) State.reset = .next t) ∧
    (∃ t, exec (.dp 0) State.reset = .next t) ∧ (∃ t, exec (.dpx 0) State.reset = .next t) ∧
    (∃ t, exec (.dpy 0) State.reset = .next t) ∧ (∃ t, exec (.bgmode 0) State.reset = .next t) ∧
    (∃ t, exec .oamdataread State.reset = .next t) ∧ (∃ t, exec (.tmaddr 0 0 0) State.reset = .next t) ∧
    busReadCount .oamdataread = 0 ∧ busReadCount (.abs 0) = 0 ∧ busReadCount (.tile 0 0 0) = 0 ∧
    exec (.cdepth 1 3) State.reset = .fault (.configurationError 1 3) :=
  ⟨⟨_, rfl⟩, ⟨_, rfl⟩, ⟨_, rfl⟩, ⟨_, rfl⟩, ⟨_, rfl⟩, ⟨_, rfl⟩, ⟨_, rfl⟩, ⟨_, rfl⟩, ⟨_, rfl⟩, ⟨_, rfl⟩, ⟨_, rfl⟩, ⟨_, rfl⟩,
    ⟨_, rfl⟩, ⟨_, rfl⟩, rfl, rfl, rfl, rfl⟩

/-- `OnlyFiveRegistersAreRead`: a register file that differs in every other register. -/
theorem witness_five_registers :
    let r : RegFile := { regs true 0 0 0 0 with a := 1, s := 2, k := 3, pc := 4, c := true, z := true, n := true }
    r.d = State.reset.regs.d ∧ r.dbr = State.reset.regs.dbr ∧ r.x = State.reset.regs.x ∧ r.y = State.reset.regs.y ∧
    r.e = State.reset.regs.e ∧ r ≠ State.reset.regs := by decide

/-- `LongIndirectIgnoresTheDataBank`: both modes complete in a state whose DBR is not the other bank. -/
theorem witness_data_bank :
    (∃ t, exec (.dpindl 0x40) (withRegs (regs true 0 0x12 0 0)) = .next t) ∧
    (∃ t, exec (.dpindly 0x40) (withRegs (regs true 0 0x12 0 0)) = .next t) ∧
    (withRegs (regs true 0 0x12 0 0)).regs.dbr ≠ 0x7E :=
  ⟨⟨_, rfl⟩, ⟨_, rfl⟩, by decide⟩

/-- `IgnoredBitsAffectNothing`: pairs of different bytes for each clause. -/
theorem witness_ignored_bits :
    (0xF5 : Byte).toNat % 16 = (0x05 : Byte).toNat % 16 ∧
    (0xBF : Byte).toNat / 64 = (0x83 : Byte).toNat / 64 ∧ (0xBF : Byte).toNat % 4 = (0x83 : Byte).toNat % 4 ∧
    (0xFF : Byte).toNat / 128 = (0x81 : Byte).toNat / 128 ∧ (0xFF : Byte).toNat % 2 = (0x81 : Byte).toNat % 2 := by decide

/-- `ColorDepthFollowsTheTable`, `TileReturnsTheRecordOfItsEntry`: the last layer with a depth and the first without. -/
theorem witness_color_depth :
    listedDepth 1 2 = some 2 ∧ listedDepth 1 3 = none ∧ listedDepth 7 0 = some 8 ∧ listedDepth 7 1 = none ∧
    listedDepth (tiles 1 63 3 15 []).screenMode 0 = some 4 := by decide

/-- `TileRecordRanges`: a state in which TILE returns a record. -/
theorem witness_tile_record :
    ∃ t r, exec (.tile 0 0 0) (tiles 3 0 0 15 [(0, 0xFF), (1, 0x03)]) = .next t ∧ t.result = .tile r ∧
      r.dataAddr = 0x2DFC0 :=
  ⟨_, _, rfl, rfl, by decide⟩

/-- `ScrollWriteChangesItsOwnValueOnly`, `LayerZeroScrollInterleavesWithParameters`: scroll writes that complete, two
layers that differ, layers other than 0, and a parameter that neither scroll register feeds. -/
theorem witness_scroll :
    (∃ t, exec (hScrollWrite 3 0xFF) State.reset = .next t) ∧ (∃ t, exec (vScrollWrite 3 0xFF) State.reset = .next t) ∧
    (2 : Fin 4) ≠ 3 ∧ (3 : Fin 4) ≠ 0 ∧ M7Param.y ≠ .hofs ∧ M7Param.y ≠ .vofs :=
  ⟨⟨_, rfl⟩, ⟨_, rfl⟩, by decide, by decide, by decide, by decide⟩

/-- `ParameterLowByteIsThePreviousCascadeByte`: later writes to other parameters. -/
theorem witness_cascade :
    ∀ w ∈ ([(.b, 0x11), (.hofs, 0x22)] : List (M7Param × Byte)), w.1 ≠ M7Param.a := by decide

/-- `TilemapAddressRange`: the largest base and size code, and a query that answers an address. -/
theorem witness_tilemap :
    ((tiles 0 63 3 0 []).layer 0).tilemapBase = 63 ∧ ((tiles 0 63 3 0 []).layer 0).screenSize = 3 ∧
    ∃ t, exec (.tmaddr 0 127 64) (tiles 0 63 3 0 []) = .next t ∧ ∃ a, t.result = .address a :=
  ⟨by decide, by decide, _, rfl, _, rfl⟩

/-- `OamDataBuffersThenCommits`, `OamDataReadReturnsTheArrayByte`: the last word and byte within the array and the
first beyond, at both parities. -/
theorem witness_oam_data :
    (oamAt 271 false 0).oam.flip = false ∧ (oamAt 271 true 0).oam.flip = true ∧ (oamAt 271 true 0).oam.word.toNat < 272 ∧
    (oamAt 272 true 0).oam.flip = true ∧ 272 ≤ (oamAt 272 true 0).oam.word.toNat ∧
    (oamAt 271 true 0).oam.word.toNat * 2 + (oamAt 271 true 0).oam.flip.toNat < 544 ∧
    544 ≤ (oamAt 272 false 0).oam.word.toNat * 2 + (oamAt 272 false 0).oam.flip.toNat := by decide

/-- `DataAccessesAdvanceThePositionByOne`: a write at the last word of the pointer's range, a read within the array. -/
theorem witness_oam_access :
    IsOamAccess (.oamdata 0xAA) ∧ (∃ t, exec (.oamdata 0xAA) (oamAt 511 false 0) = .next t) ∧
    IsOamAccess .oamdataread ∧ ∃ t, exec .oamdataread (oamAt 271 true 0) = .next t :=
  ⟨.inl ⟨_, rfl⟩, ⟨_, rfl⟩, .inr rfl, _, rfl⟩

/-- `RepeatedAddressHighRestoresThePointer`: W8's sequence with one write and one read. -/
theorem witness_repeated_high :
    (∀ i ∈ ([.oamdata 0xD1, .oamdataread] : List Instr), IsOamAccess i) ∧
    ∃ t u, Safety.runOps [.oamaddl 0x04, .oamaddh 0x01] State.reset = .next t ∧
      Safety.runOps [.oamdata 0xD1, .oamdataread] t = .next u :=
  ⟨by simp [IsOamAccess], _, _, rfl, rfl⟩

/-- `ReadsAndReloadsShiftTheOamParity`: the last word of the array, and a reload to the last word of the high table. -/
theorem witness_parity :
    (oamAt 271 false 0).oam.flip = false ∧ (oamAt 271 false 0).oam.word.toNat < 272 ∧
    (State.reset.setOam { Oam.zero with addrReg := 0x00F }).oam.flip = false ∧
    (0xFF : Byte).toNat % 2 * 256 +
      (State.reset.setOam { Oam.zero with addrReg := 0x00F }).oam.addrReg.toNat % 256 = 271 := by
  decide

/-- `TwoWriteScrollIdiom`, `LowThenHighPairSetsAParameter`: operations that may stand between the two writes, a cascade
write between those of a scroll pair and a scroll write between those of a parameter among them. -/
theorem witness_between :
    (∀ i ∈ ([.m7a 0x11, .tm 0x0F] : List Instr), ¬ IsScrollWrite i) ∧
    (∃ u, Safety.runOps [.m7a 0x11, .tm 0x0F] State.reset = .next u) ∧
    (∀ i ∈ ([.bg2hofs 0x11, .oamdata 0x0F] : List Instr), ¬ IsCascadeWrite i) ∧
    ∃ u, Safety.runOps [.bg2hofs 0x11, .oamdata 0x0F] State.reset = .next u := by
  refine ⟨?_, ⟨_, rfl⟩, ?_, _, rfl⟩
  · simp only [List.mem_cons, List.not_mem_nil, or_false, forall_eq_or_imp, forall_eq]
    constructor <;> rintro ⟨n, b, h | h⟩ <;>
      fin_cases n <;> cases h
  · simp only [List.mem_cons, List.not_mem_nil, or_false, forall_eq_or_imp, forall_eq]
    constructor <;> rintro ⟨p, b, h⟩ <;> cases p <;> cases h

end Sys2Proof.Tests
end

namespace Sys2Proof.Machine

/-! ### The halves of A (R20, R22) -/

/-- AH above AL is the whole of A. -/
theorem RegFile.ah_append_al (r : RegFile) : (r.ah ++ r.al : BitVec 16) = r.a :=
  BitVec.extractLsb'_append_extractLsb'_eq_extractLsb' rfl |>.trans BitVec.extractLsb'_eq_self

theorem RegFile.a_toNat (r : RegFile) : r.a.toNat = r.ah.toNat * 256 + r.al.toNat :=
  (congrArg BitVec.toNat r.ah_append_al.symm).trans (append_toNat ..)

@[simp] theorem RegFile.withAl_al (r : RegFile) (b : Byte) : (r.withAl b).al = b :=
  BitVec.extractLsb'_append_eq_right

@[simp] theorem RegFile.withAl_ah (r : RegFile) (b : Byte) : (r.withAl b).ah = r.ah :=
  BitVec.extractLsb'_append_eq_left

@[simp] theorem RegFile.withAh_ah (r : RegFile) (b : Byte) : (r.withAh b).ah = b :=
  BitVec.extractLsb'_append_eq_left

@[simp] theorem RegFile.withAh_al (r : RegFile) (b : Byte) : (r.withAh b).al = r.al :=
  BitVec.extractLsb'_append_eq_right

/-! ### What the operations read of the register file (R21) -/

/-- The two register files agree on D, DBR, X, Y and E, all that the block reads. -/
structure RegFile.AgreeOnRead (r r' : RegFile) : Prop where
  d : r'.d = r.d
  dbr : r'.dbr = r.dbr
  x : r'.x = r.x
  y : r'.y = r.y
  e : r'.e = r.e

/-- An outcome with the register file of its next state replaced; a fault or refusal stays as it is. -/
def replyWithRegs (r : RegFile) : Reply → Reply
  | .next t => .next (t.setRegs r)
  | .fault f => .fault f
  | .refused q => .refused q

/-- R313: TILE reads no register. -/
theorem execTile_setRegs (layer : Fin 4) (x y : Nat) (s : State) (r : RegFile) :
    execTile layer x y (s.setRegs r) = replyWithRegs r (execTile layer x y s) := by
  unfold execTile
  rw [State.setRegs_screenMode]
  cases colorDepth s.screenMode layer <;> rfl

/-- R271: CDEPTH reads no register. -/
theorem execCdepth_setRegs (mode : BitVec 3) (layer : Fin 4) (s : State) (r : RegFile) :
    execCdepth mode layer (s.setRegs r) = replyWithRegs r (execCdepth mode layer s) := by
  unfold execCdepth
  cases colorDepth mode layer <;> rfl

/-- R363: OAMDATA reads no register. -/
theorem execOamdata_setRegs (b : Byte) (s : State) (r : RegFile) :
    execOamdata b (s.setRegs r) = replyWithRegs r (execOamdata b s) := by
  unfold execOamdata
  rw [State.setRegs_oam]
  split
  · split <;> rfl
  · rfl

/-- R365: OAMDATAREAD reads no register. -/
theorem execOamdataread_setRegs (s : State) (r : RegFile) :
    execOamdataread (s.setRegs r) = replyWithRegs r (execOamdataread s) := by
  unfold execOamdataread
  rw [State.setRegs_oam]
  split <;> rfl

/-- R21: a register file that agrees on the five registers gives every operation the same outcome, itself kept. -/
theorem exec_setRegs (i : Instr) (s : State) (r : RegFile) (agree : s.regs.AgreeOnRead r) :
    exec i (s.setRegs r) = replyWithRegs r (exec i s) := by
  obtain ⟨a, x, y, sp, d, dbr, k, pc, e, c, z, n⟩ := r
  obtain ⟨rfl, rfl, rfl, rfl, rfl⟩ := agree
  cases i
  case tile => exact execTile_setRegs ..
  case cdepth => exact execCdepth_setRegs ..
  case oamdata => exact execOamdata_setRegs ..
  case oamdataread => exact execOamdataread_setRegs ..
  all_goals rfl

/-! ### Construction (R48) -/

theorem construct_layer (p : Params) (owner : Nat) (n : Fin 4) :
    (State.construct p owner).layer n = BgRecord.zero :=
  Vector.getElem_replicate n.isLt

theorem Oam.zero_byteAt (i : Nat) : Oam.zero.byteAt i = 0 := rfl

end Sys2Proof.Machine

namespace Sys2Proof

open Sys2Proof.Machine

/-- Settles O20: A is rebuilt from its halves, and the outcome of an operation rests on five registers, of which A is
none. -/
theorem accumulatorHalvesAreAliases : Obligations.AccumulatorHalvesAreAliases := by
  unfold Obligations.AccumulatorHalvesAreAliases
  refine ⟨fun r b => ⟨r.a_toNat, r.withAl_al b, r.withAl_ah b, r.withAh_ah b, r.withAh_al b, rfl, rfl⟩, fun i s v => ?_⟩
  have same := exec_setRegs i s { s.regs with a := v } ⟨rfl, rfl, rfl, rfl, rfl⟩
  exact ⟨fun t h => same.trans (congrArg _ h), fun f h => same.trans (congrArg _ h)⟩

/-- Settles O11: each field of a construction is the zero it is given there, and OAM lists no byte. -/
theorem constructionZeroesEveryField : Obligations.ConstructionZeroesEveryField :=
  fun p owner => ⟨construct_layer p owner, rfl, rfl, rfl, rfl, rfl, Oam.zero_byteAt, rfl, rfl, rfl, rfl, rfl, rfl⟩

end Sys2Proof

namespace Sys2Proof.Machine

/-! ### What every operation leaves unchanged, and which Memory Bus reads it makes (R21, R82, R83) -/

/-- R21, R82: an operation that answers a next state keeps the instance's parameters and owner, the register file, both
external memories, and all that stands on the interfaces. -/
theorem exec_frame {i : Instr} {s t : State} (h : exec i s = .next t) :
    t = { t with params := s.params, owner := s.owner, regs := s.regs, bus := s.bus, vram := s.vram,
                 inputs := s.inputs, faults := s.faults, refusals := s.refusals } := by
  cases i
  case tile => rw [execTile_only h]
  case cdepth => rw [execCdepth_only h]
  case oamdata => rw [execOamdata_only h]
  case oamdataread => rw [execOamdataread_only h]
  all_goals
    cases h
    rfl

/-- R82: an operation that is none of the five indirect modes makes no Memory Bus read. -/
theorem exec_keeps_busLog {i : Instr} {s t : State} (noRead : busReadCount i = 0) (h : exec i s = .next t) :
    t.busLog = s.busLog := by
  cases i
  case dpind | dpxind | dpindy | dpindl | dpindly => cases noRead
  case tile => rw [execTile_only h]
  case cdepth => rw [execCdepth_only h]
  case oamdata => rw [execOamdata_only h]
  case oamdataread => rw [execOamdataread_only h]
  all_goals
    cases h
    rfl

/-- The addresses of the Memory Bus reads made, oldest first. -/
def State.busAddresses (s : State) : List Nat := s.busLog.map (·.1.toNat)

@[simp] theorem State.logBusRead_busAddresses (s : State) (a : Addr24) (b : Byte) :
    (s.logBusRead a b).busAddresses = s.busAddresses ++ [a.toNat] :=
  List.map_append

/-- R212: a 16-bit pointer is read at bytes 0 and 1 of its direct-page location. -/
theorem State.ptr16_busAddresses (s : State) (op8 : Byte) (i : BitVec 16) :
    (s.ptr16 op8 i).2.busAddresses = s.busAddresses ++
      [directPageAddress s.regs op8.toNat i.toNat 0, directPageAddress s.regs op8.toNat i.toNat 1] := by
  obtain ⟨b0, b1, -, -, reads⟩ := s.ptr16_spec op8 i
  simp [reads, dpByte_toNat]

/-- R213: a 24-bit pointer is read at bytes 0, 1 and 2 of its direct-page location. -/
theorem State.ptr24_busAddresses (s : State) (op8 : Byte) (i : BitVec 16) :
    (s.ptr24 op8 i).2.busAddresses = s.busAddresses ++
      [directPageAddress s.regs op8.toNat i.toNat 0, directPageAddress s.regs op8.toNat i.toNat 1,
       directPageAddress s.regs op8.toNat i.toNat 2] := by
  obtain ⟨b0, b1, b2, -, -, -, reads⟩ := s.ptr24_spec op8 i
  simp [reads, dpByte_toNat]

end Sys2Proof.Machine

namespace Sys2Proof

open Sys2Proof.Machine

/-- Settles O18: `exec_frame` keeps the bus; the reads of an indirect mode are those of its pointer, and only these
modes fetch one. -/
theorem onlyIndirectModesReadTheBus : Obligations.OnlyIndirectModesReadTheBus := by
  refine ⟨fun i s t h => ⟨fun a => ?unwritten, fun noRead => exec_keeps_busLog noRead h⟩,
    fun op8 s t h => ?dpxind, fun op8 s t h => ?short, fun op8 s t h => ?long, fun op16 op8 s t h => ?pair⟩
  case unwritten => rw [exec_frame h]
  case dpxind =>
    cases h
    exact idxX_toNat s.params s.regs ▸ s.ptr16_busAddresses op8 (idxX s.params s.regs)
  case short => rcases h with h | h <;> cases h <;> exact s.ptr16_busAddresses op8 0
  case long => rcases h with h | h <;> cases h <;> exact s.ptr24_busAddresses op8 0
  case pair => rcases h with h | h | h | h | h | h <;> cases h <;> exact ⟨_, _, rfl⟩

end Sys2Proof

namespace Sys2Proof

/-! ### What decodes is well formed (R101, R110, R120) -/

/-- R101, R102: how many operand bytes an operand form is assembled from. -/
def AreForm.bytes : AreForm → Nat
  | .op16 _ => 2
  | .op8 _ => 1

/-- R101, R123: the decoder's selectors and their widths are those of the ARE domain. -/
theorem areOperandBytes_eq (mode : BitVec 4) : areOperandBytes mode = (areMap.lookup mode).map AreForm.bytes := by
  revert mode
  decide

/-- R103: an ARE request decodes only with as many operand bytes as its selector takes. -/
theorem areOperandBytes_of_decodeAre_ok {mode : BitVec 4} {operand : List Byte} {i : Instr}
    (h : decodeAre mode operand = .ok i) : areOperandBytes mode = some operand.length := by
  rw [areOperandBytes_eq]
  unfold decodeAre at h
  split at h
  case h_1 form => rw [form]; rfl
  case h_2 form => rw [form]; rfl
  case h_3 => cases h
  case h_4 => cases h

/-- An address found in a register map is one of the map's addresses. -/
theorem mem_keys_of_lookup {α : Type} {map : List (BitVec 16 × α)} {addr : BitVec 16} {v : α}
    (h : map.lookup addr = some v) : addr ∈ map.map Prod.fst := by
  obtain ⟨before, after, rfl, -⟩ := List.lookup_eq_some_iff.mp h
  simp

/-- R120, D28: a layer argument decodes only within its domain. -/
theorem layer_lt_of_decodeLayer_ok {layer : Nat} {n : Fin 4} (h : decodeLayer layer = .ok n) : layer < 4 := by
  unfold decodeLayer at h
  split at h
  case isTrue lt => exact lt
  case isFalse => cases h

/-- R120, D28: a mode argument decodes only within its domain. -/
theorem mode_lt_of_decodeMode_ok {mode : Nat} {m : BitVec 3} (h : decodeMode mode = .ok m) : mode < 8 := by
  unfold decodeMode at h
  split at h
  case isTrue lt => exact lt
  case isFalse => cases h

/-- A mapped decoding succeeds only where the decoding does. -/
theorem ok_of_map_ok {ε α β : Type} {x : Except ε α} {f : α → β} {b : β} (h : x.map f = .ok b) : ∃ a, x = .ok a := by
  cases x with
  | ok a => exact ⟨a, rfl⟩
  | error => cases h

/-- A chained decoding succeeds only where both of its parts do. -/
theorem ok_of_bind_ok {ε α β : Type} {x : Except ε α} {f : α → Except ε β} {b : β} (h : x.bind f = .ok b) :
    ∃ a, x = .ok a ∧ f a = .ok b := by
  cases x with
  | ok a => exact ⟨a, rfl, h⟩
  | error => cases h

/-- A tile query decodes only if R120 defines it. -/
theorem wellFormed_of_decodeQuery_ok {qsel : BitVec 2} {args : List Nat} {i : Instr}
    (h : decodeQuery qsel args = .ok i) : (Request.query qsel args).WellFormed = true := by
  unfold decodeQuery at h
  split at h
  case h_1 =>
    obtain ⟨n, layer⟩ := ok_of_map_ok h
    exact decide_eq_true (layer_lt_of_decodeLayer_ok layer)
  case h_2 =>
    obtain ⟨n, layer⟩ := ok_of_map_ok h
    exact decide_eq_true (layer_lt_of_decodeLayer_ok layer)
  case h_3 =>
    obtain ⟨m, mode⟩ := ok_of_map_ok h
    exact decide_eq_true (mode_lt_of_decodeMode_ok mode)
  case h_4 =>
    obtain ⟨m, mode, h⟩ := ok_of_bind_ok h
    obtain ⟨n, layer⟩ := ok_of_map_ok h
    simp [Request.WellFormed, mode_lt_of_decodeMode_ok mode, layer_lt_of_decodeLayer_ok layer]
  case h_5 => cases h

/-- R122: a request decodes only if an interface defines it. -/
theorem wellFormed_of_decode_ok {r : Request} {i : Instr} (h : decode r = .ok i) : r.WellFormed = true := by
  cases r with
  | are mode operand => simpa [Request.WellFormed] using areOperandBytes_of_decodeAre_ok h
  | mmioWrite addr data =>
    simp only [decode] at h
    split at h
    case h_1 make found => exact List.contains_iff_mem.mpr (mem_keys_of_lookup found)
    case h_2 => cases h
  | mmioRead addr =>
    simp only [decode] at h
    split at h
    case h_1 i found => exact List.contains_iff_mem.mpr (mem_keys_of_lookup found)
    case h_2 => cases h
  | query qsel args => exact wellFormed_of_decodeQuery_ok h

/-- R402: the decoder names a reason for every request that no interface defines. -/
theorem decode_error_of_not_wellFormed {r : Request} (h : r.WellFormed = false) : ∃ why, decode r = .error why := by
  cases decoded : decode r with
  | ok i => rw [wellFormed_of_decode_ok decoded] at h; cases h
  | error why => exact ⟨why, rfl⟩

end Sys2Proof

namespace Sys2Proof.Machine

/-! ### A request that is refused -/

/-- R404: a step that takes a request and deals with it without running an operation ends in the state it leaves. -/
theorem step_of_acceptRequest_done {s t : State} {caller : Nat} {r : Request} {rest : List Input}
    (first : s.inputs = .request caller r :: rest) (h : acceptRequest (s.setInputs rest) caller r = .done t) :
    step s = .next t := by
  simp only [step, takeInput, first, h]

/-- R402: a request that no interface defines is refused whoever sent it, and nothing else changes. -/
theorem acceptRequest_of_not_wellFormed (s : State) (caller : Nat) {r : Request} (h : r.WellFormed = false) :
    ∃ q, acceptRequest s caller r = .done (s.reportRefusal q) := by
  by_cases own : caller = s.owner
  · obtain ⟨why, undefined⟩ := decode_error_of_not_wellFormed h
    exact ⟨_, own ▸ acceptRequest_error undefined⟩
  · exact ⟨_, acceptRequest_foreign own⟩

end Sys2Proof.Machine

namespace Sys2Proof

open Sys2Proof.Machine

/-- Settles O6: the request does not decode, since only well-formed requests do, so the interfaces refuse it before any
operation starts. -/
theorem undefinedRequestsAreRefusedWithoutEffect : Obligations.UndefinedRequestsAreRefusedWithoutEffect := by
  intro s caller r rest first undefined
  obtain ⟨q, refused⟩ := acceptRequest_of_not_wellFormed (s.setInputs rest) caller undefined
  exact ⟨q, rfl, step_of_acceptRequest_done first refused⟩

end Sys2Proof

namespace Sys2Proof.Machine

/-! ### Banks and offsets of addresses (R81, R200) -/

theorem bankOf_toNat (a : Addr24) : (bankOf a).toNat = a.toNat / 0x10000 := by
  have := a.isLt
  simp only [bankOf, BitVec.extractLsb'_toNat, Nat.shiftRight_eq_div_pow]
  omega

theorem offOf_toNat (a : Addr24) : (offOf a).toNat = a.toNat % 0x10000 := by
  simp [offOf]

@[simp] theorem bankOf_base24 (bank : BitVec 8) (off : BitVec 16) : bankOf (base24 bank off) = bank :=
  BitVec.extractLsb'_append_eq_left

/-- R201: the next 24-bit address. -/
theorem add24_one_toNat (a : Addr24) : (add24 a 1).toNat = (a.toNat + 1) % 2 ^ 24 := add24_toNat a 1

/-- R202: the bank of the next address carries exactly at the last offset of a bank. -/
theorem bankOf_next_toNat (bank : BitVec 8) (off : BitVec 16) :
    (bankOf (add24 (base24 bank off) 1)).toNat = if off = 0xFFFF then (bank.toNat + 1) % 256 else bank.toNat := by
  have last : off = 0xFFFF ↔ off.toNat = 0xFFFF := BitVec.toNat_inj.symm
  have := bank.isLt
  have := off.isLt
  rw [bankOf_toNat, add24_one_toNat, base24_toNat, if_congr last rfl rfl]
  split <;> omega

/-- R202: the offset of the next address is the next one modulo 2^16. -/
theorem offOf_next_toNat (bank : BitVec 8) (off : BitVec 16) :
    (offOf (add24 (base24 bank off) 1)).toNat = (off.toNat + 1) % 2 ^ 16 := by
  rw [offOf_toNat, add24_one_toNat, base24_toNat]
  omega

/-! ### What answering and reading the Memory Bus leave unchanged -/

theorem onlyReads_refl (s : State) : OnlyReads s s :=
  ⟨⟨rfl, rfl, rfl⟩, ⟨fun _ => rfl, rfl, rfl⟩, ⟨rfl, rfl⟩, rfl, ⟨rfl, rfl, rfl, rfl, rfl, rfl⟩, fun _ => rfl,
    ⟨fun _ => rfl, fun _ => rfl⟩, ⟨rfl, rfl, rfl⟩⟩

theorem onlyReads_answer {s t : State} (h : OnlyReads s t) (r : Result) : OnlyReads s (t.answer r) := h

theorem onlyReads_logBusRead {s t : State} (h : OnlyReads s t) (a : Addr24) (b : Byte) :
    OnlyReads s (t.logBusRead a b) := h

theorem onlyResult_answer (s : State) (r : Result) : OnlyResult s (s.answer r) :=
  ⟨onlyReads_answer (onlyReads_refl s) r, rfl, rfl⟩

/-! ### Modes that return an address pair (R200) -/

/-- An operation that answers a pair formed from the state alone is a pair mode. -/
theorem pairMode_of_exec {request : Request} {i : Instr} {hi lo : State → Addr24} {low high : State → Nat}
    (decoded : decode request = .ok i) (run : ∀ s, exec i s = .next (s.answer (.pair (hi s) (lo s))))
    (hlow : ∀ s, (lo s).toNat = low s) (hhigh : ∀ s, (hi s).toNat = high s) : PairMode request i low high :=
  ⟨decoded, fun s => ⟨_, hi s, lo s, run s, rfl, hlow s, hhigh s, onlyResult_answer s _⟩⟩

/-- R203, R204: an operation that answers the pair at `DBR:op16` plus an index is a pair mode of the sum and the next
address, both modulo 2^24. -/
theorem pairMode_of_indexed {request : Request} {op16 : BitVec 16} {i : Instr} {index : State → BitVec 16}
    {n : State → Nat} (decoded : decode request = .ok i)
    (run : ∀ s, exec i s = .next (s.answer (pairAt (add24 (base24 s.regs.dbr op16) (index s)))))
    (hindex : ∀ s, (index s).toNat = n s) :
    PairMode request i (fun s => (s.regs.dbr.toNat * 0x10000 + op16.toNat + n s) % 2 ^ 24)
      (fun s => (s.regs.dbr.toNat * 0x10000 + op16.toNat + n s + 1) % 2 ^ 24) := by
  have low (s : State) : (add24 (base24 s.regs.dbr op16) (index s)).toNat =
      (s.regs.dbr.toNat * 0x10000 + op16.toNat + n s) % 2 ^ 24 := by
    rw [add24_toNat, base24_toNat, hindex]
  refine pairMode_of_exec decoded run low fun s => ?_
  rw [add24_one_toNat, low, Nat.mod_add_mod]

/-- R208 to R210: an operation that answers the direct-page pair with an index is a pair mode of the location's bytes
0 and 1. -/
theorem pairMode_of_dpPair {request : Request} {op8 : Byte} {i : Instr} {index : State → BitVec 16}
    {n : State → Nat} (decoded : decode request = .ok i)
    (run : ∀ s, exec i s = .next (s.answer (dpPair s.regs op8 (index s))))
    (hindex : ∀ s, (index s).toNat = n s) :
    PairMode request i (fun s => directPageAddress s.regs op8.toNat (n s) 0)
      (fun s => directPageAddress s.regs op8.toNat (n s) 1) :=
  pairMode_of_exec decoded run (fun s => hindex s ▸ dpByte_toNat ..) (fun s => hindex s ▸ dpByte_toNat ..)

/-! ### Modes that read a pointer (R212, R213) -/

/-- R212: an operation that answers an address made from the pointer `ptr16` reads is a 16-bit indirect mode. -/
theorem shortPointerMode_of_exec {request : Request} {op8 : Byte} {i : Instr} {index : State → BitVec 16}
    {address : State → BitVec 16 → Addr24} {n : State → Nat} {value : State → Nat → Nat}
    (decoded : decode request = .ok i)
    (run : ∀ s, exec i s =
      .next ((s.ptr16 op8 (index s)).2.answer (.pointer (address s (s.ptr16 op8 (index s)).1))))
    (hindex : ∀ s, (index s).toNat = n s) (haddress : ∀ s p, (address s p).toNat = value s p.toNat) :
    ShortPointerMode request i op8 n value := by
  refine ⟨decoded, fun s => ?_⟩
  obtain ⟨b0, b1, may0, may1, reads⟩ := s.ptr16_spec op8 (index s)
  have located (k : Nat) : (dpByte s.regs op8 (index s) k).toNat = directPageAddress s.regs op8.toNat (n s) k :=
    hindex s ▸ dpByte_toNat ..
  have pointer : (b1 ++ b0 : BitVec 16).toNat = b1.toNat * 0x100 + b0.toNat := append_toNat ..
  refine ⟨_, _, _, b0, b1, _, run s, located 0, located 1, ?_, may0, may1, rfl, ?_, ?_, ?_⟩
  all_goals rw [reads]
  · simp
  · rw [haddress, pointer]
  · rfl
  · exact onlyReads_answer (onlyReads_logBusRead (onlyReads_logBusRead (onlyReads_refl s) ..) ..) _

/-- R213: an operation that answers an address made from the pointer `ptr24` reads is a long indirect mode. -/
theorem longPointerMode_of_exec {request : Request} {op8 : Byte} {i : Instr} {address : State → Addr24 → Addr24}
    {value : State → Nat → Nat} (decoded : decode request = .ok i)
    (run : ∀ s, exec i s = .next ((s.ptr24 op8 0).2.answer (.pointer (address s (s.ptr24 op8 0).1))))
    (haddress : ∀ s p, (address s p).toNat = value s p.toNat) : LongPointerMode request i op8 value := by
  refine ⟨decoded, fun s => ?_⟩
  obtain ⟨b0, b1, b2, may0, may1, may2, reads⟩ := s.ptr24_spec op8 0
  have located (k : Nat) : (dpByte s.regs op8 0 k).toNat = directPageAddress s.regs op8.toNat 0 k := dpByte_toNat ..
  have pointer : (b2 ++ (b1 ++ b0) : BitVec 24).toNat = b2.toNat * 0x10000 + b1.toNat * 0x100 + b0.toNat := by
    rw [append_toNat, append_toNat]
    omega
  refine ⟨_, _, _, _, b0, b1, b2, _, run s, located 0, located 1, located 2, ?_, may0, may1, may2, rfl, ?_, ?_, ?_⟩
  all_goals rw [reads]
  · simp
  · rw [haddress, pointer]
  · rfl
  · exact onlyReads_answer
      (onlyReads_logBusRead (onlyReads_logBusRead (onlyReads_logBusRead (onlyReads_refl s) ..) ..) ..) _

/-! ### The data bank and the long indirect modes (R218) -/

/-- The register file with another DBR. -/
def RegFile.withDbr (r : RegFile) (bank : BitVec 8) : RegFile := { r with dbr := bank }

/-- R206: a direct-page location does not depend on DBR. -/
theorem dpByte_withDbr (r : RegFile) (bank : BitVec 8) (op8 : Byte) (i : BitVec 16) (k : Nat) :
    dpByte (r.withDbr bank) op8 i k = dpByte r op8 i k := rfl

/-- R213: under another DBR the same 24-bit pointer is read, by the same bus reads. -/
theorem State.ptr24_withDbr (s : State) (bank : BitVec 8) (op8 : Byte) (i : BitVec 16) :
    (s.setRegs (s.regs.withDbr bank)).ptr24 op8 i =
      ((s.ptr24 op8 i).1, (s.ptr24 op8 i).2.setRegs (s.regs.withDbr bank)) := by
  simp only [State.ptr24, State.memRead, State.setRegs_regs, dpByte_withDbr]
  rfl

/-- R218: under another DBR [Direct] has the same outcome. -/
theorem execDpindl_withDbr (op8 : Byte) (s : State) (bank : BitVec 8) :
    execDpindl op8 (s.setRegs (s.regs.withDbr bank)) = replyWithRegs (s.regs.withDbr bank) (execDpindl op8 s) := by
  simp only [execDpindl, State.ptr24_withDbr]
  rfl

/-- R218: under another DBR [Direct],Y has the same outcome. -/
theorem execDpindly_withDbr (op8 : Byte) (s : State) (bank : BitVec 8) :
    execDpindly op8 (s.setRegs (s.regs.withDbr bank)) = replyWithRegs (s.regs.withDbr bank) (execDpindly op8 s) := by
  simp only [execDpindly, State.ptr24_withDbr]
  rfl

end Sys2Proof.Machine

namespace Sys2Proof

open Sys2Proof.Machine

/-- Settles O22: each mode is a pair mode at `DBR:op16`, the carry being that of the addition modulo 2^24. -/
theorem absoluteModesReturnTheAddressPair : Obligations.AbsoluteModesReturnTheAddressPair := by
  refine fun op16 => ⟨?abs, ?absx, ?absy⟩
  case abs =>
    refine pairMode_of_exec (Laws.RoundTrip.abs op16).2 (fun _ => rfl) (fun s => base24_toNat ..) fun s => ?_
    rw [add24_one_toNat, base24_toNat]
  case absx =>
    exact pairMode_of_indexed (Laws.RoundTrip.absx op16).2 (fun _ => rfl) fun s => idxX_toNat s.params s.regs
  case absy =>
    exact pairMode_of_indexed (Laws.RoundTrip.absy op16).2 (fun _ => rfl) fun s => idxY_toNat s.params s.regs

/-- Settles O23: the pair is `DBR:op16` and the next address, whose bank carries at the offset 0xFFFF only. -/
theorem absoluteBankProperty : Obligations.AbsoluteBankProperty := fun op16 s =>
  ⟨_, _, _, rfl, rfl, bankOf_base24 s.regs.dbr op16, bankOf_next_toNat s.regs.dbr op16,
    offOf_next_toNat s.regs.dbr op16⟩

/-- Settles O24: each mode is a pair mode at its direct-page location, with the index of none, X or Y. -/
theorem directReturnsThePageAddressPair : Obligations.DirectReturnsThePageAddressPair := fun op8 =>
  ⟨pairMode_of_dpPair (Laws.RoundTrip.dp op8).2 (fun _ => rfl) fun _ => rfl,
    pairMode_of_dpPair (Laws.RoundTrip.dpx op8).2 (fun _ => rfl) fun s => idxX_toNat s.params s.regs,
    pairMode_of_dpPair (Laws.RoundTrip.dpy op8).2 (fun _ => rfl) fun s => idxY_toNat s.params s.regs⟩

/-- Settles O25: the three modes read by `ptr16` and differ in the index before and the address after it. -/
theorem indirectModesReadAPointerInBankDbr : Obligations.IndirectModesReadAPointerInBankDbr := by
  refine fun op8 => ⟨?dpind, ?dpxind, ?dpindy⟩
  case dpind =>
    exact shortPointerMode_of_exec (address := fun s p => base24 s.regs.dbr p) (Laws.RoundTrip.dpind op8).2
      (fun _ => rfl) (fun _ => rfl) fun s p => base24_toNat s.regs.dbr p
  case dpxind =>
    exact shortPointerMode_of_exec (address := fun s p => base24 s.regs.dbr p) (Laws.RoundTrip.dpxind op8).2
      (fun _ => rfl) (fun s => idxX_toNat s.params s.regs) fun s p => base24_toNat s.regs.dbr p
  case dpindy =>
    refine shortPointerMode_of_exec (address := fun s p => add24 (base24 s.regs.dbr p) (idxY s.params s.regs))
      (Laws.RoundTrip.dpindy op8).2 (fun _ => rfl) (fun _ => rfl) fun s p => ?_
    rw [add24_toNat, base24_toNat, idxY_toNat]

/-- Settles O26: both modes read by `ptr24`; the second adds Y to what was read. -/
theorem longIndirectReadsA24BitPointer : Obligations.LongIndirectReadsA24BitPointer := by
  refine fun op8 => ⟨?dpindl, ?dpindly⟩
  case dpindl =>
    exact longPointerMode_of_exec (address := fun _ p => p) (Laws.RoundTrip.dpindl op8).2 (fun _ => rfl) fun _ _ => rfl
  case dpindly =>
    refine longPointerMode_of_exec (address := fun s p => add24 p (idxY s.params s.regs))
      (Laws.RoundTrip.dpindly op8).2 (fun _ => rfl) fun s p => ?_
    rw [add24_toNat, idxY_toNat]

/-- Settles O27: another DBR leaves the pointer read, and so the outcome, as it is. -/
theorem longIndirectIgnoresTheDataBank : Obligations.LongIndirectIgnoresTheDataBank := fun op8 s _ bank =>
  ⟨fun h => (execDpindl_withDbr op8 s bank).trans (congrArg (replyWithRegs _) h),
    fun h => (execDpindly_withDbr op8 s bank).trans (congrArg (replyWithRegs _) h)⟩

end Sys2Proof

namespace Sys2Proof.Machine

/-! ### What the updates of the background unit leave unchanged -/

theorem onlyBackground_refl (s : State) : OnlyBackground s s :=
  ⟨⟨rfl, rfl, rfl⟩, ⟨rfl, rfl⟩, rfl, ⟨rfl, rfl, rfl, rfl, rfl, rfl⟩, fun _ => rfl, ⟨fun _ => rfl, fun _ => rfl⟩,
    ⟨rfl, rfl⟩, ⟨rfl, rfl, rfl⟩⟩

theorem onlyBackground_answer {s t : State} (h : OnlyBackground s t) (r : Result) : OnlyBackground s (t.answer r) := h

theorem onlyBackground_setScreenMode {s t : State} (h : OnlyBackground s t) (v : BitVec 3) :
    OnlyBackground s (t.setScreenMode v) := h

theorem onlyBackground_setMosaicSize {s t : State} (h : OnlyBackground s t) (v : BitVec 4) :
    OnlyBackground s (t.setMosaicSize v) := h

theorem onlyBackground_setLayer {s t : State} (h : OnlyBackground s t) (n : Fin 4) (r : BgRecord) :
    OnlyBackground s (t.setLayer n r) := h

theorem onlyBackground_mapLayers {s t : State} (h : OnlyBackground s t) (f : Fin 4 → BgRecord → BgRecord) :
    OnlyBackground s (t.mapLayers f) := h

/-! ### Background register writes (R250) -/

section BackgroundWrites

variable {addr : BitVec 16} {mk : Byte → Instr} {record : State → Byte → Fin 4 → BgRecord → Prop}

/-- R250: an operation that ends in a background update and returns nothing is a background write of what the update
does to the records, the screen mode and the mosaic size. -/
theorem backgroundWrite_of_exec {update : Byte → State → State} {mode mosaic : State → Byte → Nat}
    (decoded : ∀ b, decode (.mmioWrite addr b) = .ok (mk b)) (run : ∀ b s, exec (mk b) s = (update b s).written)
    (hrecord : ∀ s b n, record s b n ((update b s).layer n))
    (hmode : ∀ s b, (update b s).screenMode.toNat = mode s b)
    (hmosaic : ∀ s b, (update b s).mosaicSize.toNat = mosaic s b) (only : ∀ s b, OnlyBackground s (update b s)) :
    BackgroundWrite addr mk record mode mosaic := fun b s =>
  ⟨decoded b, _, run b s, hrecord s b, hmode s b, hmosaic s b, rfl, onlyBackground_answer (only s b) .nothing⟩

/-- R250: an operation that rewrites the layers' records is a layer write of the rewriting. -/
theorem layerWrite_of_mapLayers {f : Byte → Fin 4 → BgRecord → BgRecord}
    (decoded : ∀ b, decode (.mmioWrite addr b) = .ok (mk b)) (run : ∀ b s, exec (mk b) s = (s.mapLayers (f b)).written)
    (hrecord : ∀ s b n, record s b n (f b n (s.layer n))) : LayerWrite addr mk record :=
  backgroundWrite_of_exec decoded run (fun s b n => (s.mapLayers_layer (f b) n).symm ▸ hrecord s b n)
    (fun _ _ => rfl) (fun _ _ => rfl) fun s b => onlyBackground_mapLayers (onlyBackground_refl s) (f b)

/-! ### Tilemap, tileset and window registers (R253 to R261) -/

/-- R253 to R256: what `setTilemap` does to each layer's record. -/
theorem setTilemap_record (layer : Fin 4) (s : State) (b : Byte) (n : Fin 4) :
    TilemapRecord layer s b n ((s.setTilemap layer b).layer n) := by
  have base : (field b 2 6).toNat = b.toNat / 4 := by
    have := b.isLt
    rw [field_toNat]
    omega
  have size : (field b 0 2).toNat = b.toNat % 4 := by simp [field_toNat]
  unfold TilemapRecord
  rw [State.setTilemap_layer]
  split
  case isTrue own => exact ⟨base, size, own ▸ rfl⟩
  case isFalse => rfl

/-- R253 to R256: an operation that ends in `setTilemap` is a tilemap register's write. -/
theorem layerWrite_of_setTilemap {layer : Fin 4} (decoded : ∀ b, decode (.mmioWrite addr b) = .ok (mk b))
    (run : ∀ b s, exec (mk b) s = (s.setTilemap layer b).written) : LayerWrite addr mk (TilemapRecord layer) :=
  backgroundWrite_of_exec decoded run (setTilemap_record layer) (fun _ _ => rfl) (fun _ _ => rfl)
    fun s _ => onlyBackground_setLayer (onlyBackground_refl s) layer _

/-- The low nibble of a written byte. -/
theorem field_low_nibble (b : Byte) : (field b 0 4).toNat = b.toNat % 16 := by simp [field_toNat]

/-- The high nibble of a written byte. -/
theorem field_high_nibble (b : Byte) : (field b 4 4).toNat = b.toNat / 16 := by
  have := b.isLt
  rw [field_toNat]
  omega

/-- R257, R258: an operation that ends in `setTilesets` is a tileset register's write. -/
theorem layerWrite_of_setTilesets {low high : Fin 4} (decoded : ∀ b, decode (.mmioWrite addr b) = .ok (mk b))
    (run : ∀ b s, exec (mk b) s = (s.setTilesets low high b).written) :
    LayerWrite addr mk (TilesetRecord low high) := by
  refine layerWrite_of_mapLayers decoded run fun s b n => ?_
  unfold TilesetRecord
  split
  case isTrue => exact ⟨rfl, field_low_nibble b⟩
  case isFalse =>
    split
    case isTrue => exact ⟨rfl, field_high_nibble b⟩
    case isFalse => exact ⟨rfl, rfl⟩

/-- R259, R260: an operation that ends in `setWindowMasks` is a window-mask register's write. -/
theorem layerWrite_of_setWindowMasks {low high : Fin 4} (decoded : ∀ b, decode (.mmioWrite addr b) = .ok (mk b))
    (run : ∀ b s, exec (mk b) s = (s.setWindowMasks low high b).written) :
    LayerWrite addr mk (WindowRecord low high) := by
  refine layerWrite_of_mapLayers decoded run fun s b n => ?_
  unfold WindowRecord
  split
  case isTrue => simp [field_toNat]
  case isFalse =>
    split
    case isTrue =>
      have := b.isLt
      refine ⟨rfl, Prod.ext (field_toNat b 4 2) ((field_toNat b 6 2).trans ?_)⟩
      omega
    case isFalse => exact ⟨rfl, rfl⟩

/-- R261: the two bits of layer `n` in a register with two bits per layer. -/
theorem field_layer_pair (b : Byte) (n : Fin 4) : (field b (2 * n.val) 2).toNat = b.toNat / 4 ^ n.val % 4 := by
  rw [field_toNat, Nat.pow_mul]
  rfl

/-! ### Registers with one enable per layer (R262 to R266) -/

/-- R262 to R266: an operation that sets one flag of every record from its layer's bit, bits 3:0 of the byte, is the
layer write of that flag. -/
theorem layerWrite_of_enable (setFlag : BgRecord → Bool → BgRecord)
    (decoded : ∀ b, decode (.mmioWrite addr b) = .ok (mk b))
    (run : ∀ b s, exec (mk b) s = (s.mapLayers fun n r => setFlag r (layerBit b 0 n)).written) :
    LayerWrite addr mk fun s b n r => r = setFlag (s.layer n) (b.toNat.testBit n.val) := by
  refine layerWrite_of_mapLayers decoded run fun s b n => ?_
  rw [layerBit_eq, Nat.zero_add]

end BackgroundWrites

/-! ### Active layers and color depths (R270 to R272) -/

/-- R270: the layers are listed in ascending order. -/
theorem validBackgrounds_ascending (mode : BitVec 3) : (validBackgrounds mode).Pairwise (· < ·) := by
  revert mode
  decide

/-- R270: which layers of a mode are active. -/
theorem mem_validBackgrounds (mode : BitVec 3) (n : Fin 4) : n ∈ validBackgrounds mode ↔
    n = 0 ∨ (n = 1 ∧ mode.toNat < 6) ∨ (n = 2 ∧ mode.toNat < 2) ∨ (n = 3 ∧ mode.toNat = 0) := by
  have zero : mode = 0#3 ↔ mode.toNat = 0 := BitVec.toNat_inj.symm
  simp [validBackgrounds, BitVec.lt_def, zero, List.mem_ite_nil_right, and_comm]

/-- R272: the table has a depth exactly in the cells of active layers. -/
theorem colorDepth_isSome_iff (mode : BitVec 3) (layer : Fin 4) :
    (colorDepth mode layer).isSome ↔ layer ∈ validBackgrounds mode := by
  revert mode layer
  decide

/-- R271: where the table has a depth, CDEPTH answers it. -/
theorem exec_cdepth_of_some {mode : BitVec 3} {layer : Fin 4} {d : Nat} (h : colorDepth mode layer = some d)
    (s : State) : exec (.cdepth mode layer) s = .next (s.answer (.depth d)) := by
  simp only [exec, execCdepth, h]

/-- R271, R400: where the table has none, CDEPTH ends in a ConfigurationError. -/
theorem exec_cdepth_of_none {mode : BitVec 3} {layer : Fin 4} (h : colorDepth mode layer = none) (s : State) :
    exec (.cdepth mode layer) s = .fault (.configurationError mode layer) := by
  simp only [exec, execCdepth, h]

/-- R271: CDEPTH answers a next state exactly where the table has a depth. -/
theorem exec_cdepth_next_iff (mode : BitVec 3) (layer : Fin 4) (s : State) :
    (∃ t, exec (.cdepth mode layer) s = .next t) ↔ (colorDepth mode layer).isSome := by
  cases h : colorDepth mode layer with
  | some d => simp [exec_cdepth_of_some h]
  | none => simp [exec_cdepth_of_none h]

end Sys2Proof.Machine

namespace Sys2Proof

open Sys2Proof.Machine

/-- Settles O28: each write sets one shared field and one flag of every layer, BGMODE also the priority of layer 2. -/
theorem bgmodeAndMosaicSetTheirFields : Obligations.BgmodeAndMosaicSetTheirFields := by
  refine ⟨?bgmode, ?mosaic⟩
  case bgmode =>
    refine backgroundWrite_of_exec (fun b => (Laws.RoundTrip.bgmode b).2) (fun _ _ => rfl) (fun s b n => ?records)
      (fun s b => ?screenMode) (fun _ _ => rfl)
      fun s _ => onlyBackground_mapLayers (onlyBackground_setScreenMode (onlyBackground_refl s) _) _
    case records => rw [State.mapLayers_layer]; rfl
    case screenMode => simp [field_toNat]
  case mosaic =>
    refine backgroundWrite_of_exec (fun b => (Laws.RoundTrip.mosaic b).2) (fun _ _ => rfl) (fun s b n => ?records)
      (fun _ _ => rfl) (fun _ b => field_high_nibble b)
      fun s _ => onlyBackground_mapLayers (onlyBackground_setMosaicSize (onlyBackground_refl s) _) _
    case records => rw [State.mapLayers_layer, layerBit_eq, Nat.zero_add]; rfl

/-- Settles O29: four registers end in `setTilemap` and two in `setTilesets`. -/
theorem tilemapAndTilesetRegistersSetBases : Obligations.TilemapAndTilesetRegistersSetBases :=
  ⟨layerWrite_of_setTilemap (fun b => (Laws.RoundTrip.bg1sc b).2) fun _ _ => rfl,
    layerWrite_of_setTilemap (fun b => (Laws.RoundTrip.bg2sc b).2) fun _ _ => rfl,
    layerWrite_of_setTilemap (fun b => (Laws.RoundTrip.bg3sc b).2) fun _ _ => rfl,
    layerWrite_of_setTilemap (fun b => (Laws.RoundTrip.bg4sc b).2) fun _ _ => rfl,
    layerWrite_of_setTilesets (fun b => (Laws.RoundTrip.bg12nba b).2) fun _ _ => rfl,
    layerWrite_of_setTilesets (fun b => (Laws.RoundTrip.bg34nba b).2) fun _ _ => rfl⟩

/-- Settles O30: two registers end in `setWindowMasks`; WBGLOG gives every layer its own bit pair. -/
theorem windowRegistersSetMasksAndLogic : Obligations.WindowRegistersSetMasksAndLogic :=
  ⟨layerWrite_of_setWindowMasks (fun b => (Laws.RoundTrip.w12sel b).2) fun _ _ => rfl,
    layerWrite_of_setWindowMasks (fun b => (Laws.RoundTrip.w34sel b).2) fun _ _ => rfl,
    layerWrite_of_mapLayers (fun b => (Laws.RoundTrip.wbglog b).2) (fun _ _ => rfl)
      fun _ b n => ⟨rfl, field_layer_pair b n⟩⟩

/-- Settles O31: the five registers differ in the flag they set. -/
theorem enableRegistersSetOneBitPerLayer : Obligations.EnableRegistersSetOneBitPerLayer :=
  ⟨layerWrite_of_enable (fun r e => { r with mainShow := e }) (fun b => (Laws.RoundTrip.tm b).2) fun _ _ => rfl,
    layerWrite_of_enable (fun r e => { r with subShow := e }) (fun b => (Laws.RoundTrip.ts b).2) fun _ _ => rfl,
    layerWrite_of_enable (fun r e => { r with mainWindow := e }) (fun b => (Laws.RoundTrip.tmw b).2) fun _ _ => rfl,
    layerWrite_of_enable (fun r e => { r with subWindow := e }) (fun b => (Laws.RoundTrip.tsw b).2) fun _ _ => rfl,
    layerWrite_of_enable (fun r e => { r with colorMath := e }) (fun b => (Laws.RoundTrip.cgadsub b).2) fun _ _ => rfl⟩

/-- Settles O33: VALIDBG answers `validBackgrounds`, whose order and members are known. -/
theorem validBackgroundsListsTheActiveLayers : Obligations.ValidBackgroundsListsTheActiveLayers := fun mode s =>
  ⟨(Laws.RoundTrip.validbg mode).2, _, _, rfl, rfl, validBackgrounds_ascending mode, mem_validBackgrounds mode,
    onlyResult_answer s _⟩

/-- Settles O34: CDEPTH answers from the table, which is the source's lists. -/
theorem colorDepthFollowsTheTable : Obligations.ColorDepthFollowsTheTable := by
  intro mode layer s
  rw [← colorDepth_eq_listedDepth]
  exact ⟨(Laws.RoundTrip.cdepth mode layer).2,
    fun d h => ⟨_, exec_cdepth_of_some h s, rfl, onlyResult_answer s _⟩, fun h => exec_cdepth_of_none h s⟩

/-- Settles O35: CDEPTH completes where the table has a depth, which is at the layers that VALIDBG answers. -/
theorem colorDepthIsDefinedExactlyForValidLayers : Obligations.ColorDepthIsDefinedExactlyForValidLayers := by
  intro mode layer s
  rw [exec_cdepth_next_iff, colorDepth_isSome_iff]
  constructor
  · exact fun member => ⟨_, _, rfl, rfl, member⟩
  · rintro ⟨t, l, run, result, member⟩
    cases run
    cases result
    exact member

end Sys2Proof

namespace Sys2Proof.Machine

/-! ### What the updates of a scroll write leave unchanged -/

section OnlyScrollUpdates

variable {n : Fin 4} {s t : State}

theorem onlyScroll_refl (n : Fin 4) (s : State) : OnlyScroll n s s :=
  ⟨⟨rfl, rfl, rfl⟩, fun _ _ => rfl, rfl, rfl, ⟨rfl, rfl, rfl, rfl, rfl, rfl⟩, fun _ => rfl,
    ⟨fun _ => rfl, fun _ => rfl⟩, ⟨rfl, rfl⟩, ⟨rfl, rfl, rfl⟩⟩

theorem onlyScroll_answer (h : OnlyScroll n s t) (r : Result) : OnlyScroll n s (t.answer r) := h

theorem onlyScroll_setM7 (h : OnlyScroll n s t) (m : Mode7) : OnlyScroll n s (t.setM7 m) := h

theorem onlyScroll_setLatches (h : OnlyScroll n s t) (latch1 latch2 : Byte) :
    OnlyScroll n s (t.setLatches latch1 latch2) := h

theorem onlyScroll_setLayer (h : OnlyScroll n s t) (r : BgRecord) : OnlyScroll n s (t.setLayer n r) := by
  obtain ⟨registers, layers, rest⟩ := h
  exact ⟨registers, fun m other => (State.setLayer_layer_ne t n m r other).trans (layers m other), rest⟩

end OnlyScrollUpdates

/-! ### The state after a scroll write, of any layer (R290 to R299) -/

/-- R292, R293: the Mode-7 record after a scroll write of layer `n`, whose direction feeds `p`: layer 0 cascades. -/
def scrollMode7 (p : M7Param) (n : Fin 4) (b : Byte) (m : Mode7) : Mode7 := if n = 0 then m.cascade p b else m

/-- R294 to R299: a scroll write of a layer other than 0 leaves the Mode-7 record alone. -/
theorem scrollMode7_of_ne_zero (p : M7Param) {n : Fin 4} (h : n ≠ 0) (m : Mode7) (b : Byte) :
    scrollMode7 p n b m = m := if_neg h

/-- The state after a write of layer `n`'s horizontal scroll register. -/
def State.hScrolled (s : State) (n : Fin 4) (b : Byte) : State :=
  ((s.hWrite n b).setM7 (scrollMode7 .hofs n b s.m7)).answer .nothing

/-- The state after a write of layer `n`'s vertical scroll register. -/
def State.vScrolled (s : State) (n : Fin 4) (b : Byte) : State :=
  ((s.vWrite n b).setM7 (scrollMode7 .vofs n b s.m7)).answer .nothing

/-- R292, R294, R296, R298: a horizontal scroll write completes from every state. -/
theorem exec_hScrollWrite (n : Fin 4) (b : Byte) (s : State) : exec (hScrollWrite n b) s = .next (s.hScrolled n b) := by
  match n with
  | 0 | 1 | 2 | 3 => rfl

/-- R293, R295, R297, R299: a vertical scroll write completes from every state. -/
theorem exec_vScrollWrite (n : Fin 4) (b : Byte) (s : State) : exec (vScrollWrite n b) s = .next (s.vScrolled n b) := by
  match n with
  | 0 | 1 | 2 | 3 => rfl

section Scrolled

variable (s : State) (n m : Fin 4) (b : Byte)

@[simp] theorem State.hScrolled_latch1 : (s.hScrolled n b).latch1 = b := rfl
@[simp] theorem State.hScrolled_latch2 : (s.hScrolled n b).latch2 = b := rfl
@[simp] theorem State.vScrolled_latch1 : (s.vScrolled n b).latch1 = b := rfl
@[simp] theorem State.vScrolled_latch2 : (s.vScrolled n b).latch2 = s.latch2 := rfl

theorem State.hScrolled_layer : (s.hScrolled n b).layer m =
    if m = n then { s.layer n with hScroll := hValue b s.latch1 s.latch2 } else s.layer m := s.hWrite_layer n m b

theorem State.vScrolled_layer : (s.vScrolled n b).layer m =
    if m = n then { s.layer n with vScroll := vValue b s.latch1 } else s.layer m := s.vWrite_layer n m b

/-- R290: the written layer's record takes the new horizontal value. -/
theorem State.hScrolled_layer_self :
    (s.hScrolled n b).layer n = { s.layer n with hScroll := hValue b s.latch1 s.latch2 } :=
  (s.hScrolled_layer n n b).trans (if_pos rfl)

/-- R291: the written layer's record takes the new vertical value. -/
theorem State.vScrolled_layer_self : (s.vScrolled n b).layer n = { s.layer n with vScroll := vValue b s.latch1 } :=
  (s.vScrolled_layer n n b).trans (if_pos rfl)

/-- R290: the horizontal value, on naturals. -/
theorem State.hScrolled_hScroll_toNat : ((s.hScrolled n b).layer n).hScroll.toNat =
    b.toNat % 4 * 256 + s.latch1.toNat / 8 * 8 + s.latch2.toNat % 8 := by
  rw [hScrolled_layer_self, hValue_toNat, Nat.add_assoc]

/-- R291: the vertical value, on naturals. -/
theorem State.vScrolled_vScroll_toNat : ((s.vScrolled n b).layer n).vScroll.toNat =
    b.toNat % 4 * 256 + s.latch1.toNat := by
  rw [vScrolled_layer_self, vValue_toNat]

/-- R303: a horizontal write changes no vertical value. -/
theorem State.hScrolled_vScroll : ((s.hScrolled n b).layer m).vScroll = (s.layer m).vScroll := by
  rw [hScrolled_layer]
  split
  case isTrue own => rw [own]
  case isFalse => rfl

/-- R303: a vertical write changes no horizontal value. -/
theorem State.vScrolled_hScroll : ((s.vScrolled n b).layer m).hScroll = (s.layer m).hScroll := by
  rw [vScrolled_layer]
  split
  case isTrue own => rw [own]
  case isFalse => rfl

theorem onlyScroll_hScrolled : OnlyScroll n s (s.hScrolled n b) :=
  onlyScroll_answer (onlyScroll_setM7 (onlyScroll_setLatches (onlyScroll_setLayer (onlyScroll_refl n s) _) b b) _) _

theorem onlyScroll_vScrolled : OnlyScroll n s (s.vScrolled n b) :=
  onlyScroll_answer (onlyScroll_setM7 (onlyScroll_setLatches (onlyScroll_setLayer (onlyScroll_refl n s) _) b _) _) _

end Scrolled

/-! ### Scroll registers on the MMIO map (R292 to R299) -/

/-- R290: a horizontal scroll register, once its address and what it does to the Mode-7 record are known. -/
theorem horizontalWrite_of_mode7 {addr : BitVec 16} {n : Fin 4} {mode7 : Mode7 → Byte → Mode7 → Prop}
    (decoded : ∀ b, decode (.mmioWrite addr b) = .ok (hScrollWrite n b))
    (hmode7 : ∀ m b, mode7 m b (scrollMode7 .hofs n b m)) : HorizontalWrite addr n mode7 := fun b s =>
  ⟨decoded b, _, exec_hScrollWrite n b s, s.hScrolled_hScroll_toNat n b, by rw [s.hScrolled_layer_self], rfl, rfl,
    hmode7 s.m7 b, rfl, onlyScroll_hScrolled s n b⟩

/-- R291: a vertical scroll register, once its address and what it does to the Mode-7 record are known. -/
theorem verticalWrite_of_mode7 {addr : BitVec 16} {n : Fin 4} {mode7 : Mode7 → Byte → Mode7 → Prop}
    (decoded : ∀ b, decode (.mmioWrite addr b) = .ok (vScrollWrite n b))
    (hmode7 : ∀ m b, mode7 m b (scrollMode7 .vofs n b m)) : VerticalWrite addr n mode7 := fun b s =>
  ⟨decoded b, _, exec_vScrollWrite n b s, s.vScrolled_vScroll_toNat n b, by rw [s.vScrolled_layer_self], rfl, rfl,
    hmode7 s.m7 b, rfl, onlyScroll_vScrolled s n b⟩

/-! ### Operations between two scroll writes (R301) -/

/-- R301: a sequence of operations without a scroll write leaves both latches as they are. -/
theorem runOps_keeps_latches {ops : List Instr} {s t : State} (other : ∀ i ∈ ops, ¬ IsScrollWrite i)
    (run : Safety.runOps ops s = .next t) : SameLatches s t := by
  refine runOps_keeps (P := SameLatches s) (fun i hi u v before h => ?_) ⟨rfl, rfl⟩ run
  obtain ⟨before1, before2⟩ := before
  obtain ⟨same1, same2⟩ := exec_keeps_latches (other i hi) h
  exact ⟨same1.trans before1, same2.trans before2⟩

end Sys2Proof.Machine

namespace Sys2Proof

open Sys2Proof.Machine

/-- Settles O36: the three registers differ in layer and address; none is layer 0, which alone feeds Mode 7. -/
theorem horizontalScrollCombinesBothLatches : Obligations.HorizontalScrollCombinesBothLatches :=
  ⟨horizontalWrite_of_mode7 (fun b => (Laws.RoundTrip.bg2hofs b).2) (scrollMode7_of_ne_zero .hofs (by decide)),
    horizontalWrite_of_mode7 (fun b => (Laws.RoundTrip.bg3hofs b).2) (scrollMode7_of_ne_zero .hofs (by decide)),
    horizontalWrite_of_mode7 (fun b => (Laws.RoundTrip.bg4hofs b).2) (scrollMode7_of_ne_zero .hofs (by decide))⟩

/-- Settles O37: as for the horizontal registers, and a vertical transition keeps `latch2`. -/
theorem verticalScrollCombinesLatch1 : Obligations.VerticalScrollCombinesLatch1 :=
  ⟨verticalWrite_of_mode7 (fun b => (Laws.RoundTrip.bg2vofs b).2) (scrollMode7_of_ne_zero .vofs (by decide)),
    verticalWrite_of_mode7 (fun b => (Laws.RoundTrip.bg3vofs b).2) (scrollMode7_of_ne_zero .vofs (by decide)),
    verticalWrite_of_mode7 (fun b => (Laws.RoundTrip.bg4vofs b).2) (scrollMode7_of_ne_zero .vofs (by decide))⟩

/-- Settles O38: at layer 0 the scroll transition is followed by the cascade transition, which leaves layers and latches
alone. -/
theorem layerZeroScrollAlsoFeedsTheCascade : Obligations.LayerZeroScrollAlsoFeedsTheCascade :=
  ⟨horizontalWrite_of_mode7 (fun b => (Laws.RoundTrip.bg1hofs b).2) fun m => m.cascade_spec .hofs,
    verticalWrite_of_mode7 (fun b => (Laws.RoundTrip.bg1vofs b).2) fun m => m.cascade_spec .vofs⟩

/-- Settles O39: the operations between keep the latches, so the second write finds `lo` in each that it reads. -/
theorem twoWriteScrollIdiom : Obligations.TwoWriteScrollIdiom := by
  intro n lo hi s
  refine ⟨⟨_, exec_hScrollWrite n lo s, s.hScrolled_hScroll_toNat n lo, fun between u other run => ?horizontal⟩,
    ⟨_, exec_vScrollWrite n lo s, s.vScrolled_vScroll_toNat n lo, fun between u other run => ?vertical⟩⟩
  case horizontal =>
    obtain ⟨latch1, latch2⟩ := runOps_keeps_latches other run
    refine ⟨_, exec_hScrollWrite n hi u, ?_⟩
    rw [u.hScrolled_hScroll_toNat, latch1, latch2, s.hScrolled_latch1, s.hScrolled_latch2]
    omega
  case vertical =>
    obtain ⟨latch1, -⟩ := runOps_keeps_latches other run
    refine ⟨_, exec_vScrollWrite n hi u, ?_⟩
    rw [u.vScrolled_vScroll_toNat, latch1, s.vScrolled_latch1]

/-- Settles O40: the vertical write leaves its byte in `latch1` and the first horizontal byte in `latch2`. -/
theorem verticalWriteBetweenHorizontalWrites : Obligations.VerticalWriteBetweenHorizontalWrites :=
  fun n m k first vertical second s =>
    let t := s.hScrolled n first
    let u := t.vScrolled m vertical
    ⟨t, u, u.hScrolled k second, exec_hScrollWrite n first s, exec_vScrollWrite m vertical t,
      t.vScrolled_latch1 m vertical, t.vScrolled_latch2 m vertical, exec_hScrollWrite k second u,
      u.hScrolled_hScroll_toNat k second⟩

/-- Settles O41: a scroll write replaces one record, and in it one field. -/
theorem scrollWriteChangesItsOwnValueOnly : Obligations.ScrollWriteChangesItsOwnValueOnly := by
  refine fun n m b s t => ⟨fun h => ?horizontal, fun h => ?vertical⟩
  case horizontal =>
    cases (exec_hScrollWrite n b s).symm.trans h
    exact ⟨s.hScrolled_vScroll n m b, fun other => by rw [s.hScrolled_layer, if_neg other]⟩
  case vertical =>
    cases (exec_vScrollWrite n b s).symm.trans h
    exact ⟨s.vScrolled_hScroll n m b, fun other => by rw [s.vScrolled_layer, if_neg other]⟩

end Sys2Proof

namespace Sys2Proof.Machine

/-! ### What a VRAM read leaves unchanged -/

theorem onlyReads_logVramRead {s t : State} (h : OnlyReads s t) (a : Nat) (b : Byte) :
    OnlyReads s (t.logVramRead a b) := h

/-! ### The tile query (R313 to R316) -/

/-- R313: where the layer has a depth, TILE reads the entry at its tilemap address and answers the entry's record. -/
theorem exec_tile_of_some {s : State} {layer : Fin 4} {d : Nat} (h : colorDepth s.screenMode layer = some d)
    (x y : Nat) : exec (.tile layer x y) s =
      .next ((s.entryAt (tilemapAddress (s.layer layer) x y)).2.answer
        (.tile (tileRecord (s.layer layer) d (s.entryAt (tilemapAddress (s.layer layer) x y)).1))) := by
  simp only [exec, execTile, h]

section TileRecord

variable (r : BgRecord) (d : Nat) (entry : BitVec 16)

/-- R313: the palette is bits 12:10 of the entry. -/
theorem tileRecord_palette_toNat : (tileRecord r d entry).palette.toNat = entry.toNat / 1024 % 8 := by
  simp [tileRecord, Nat.shiftRight_eq_div_pow]

/-- R313: one bit of the entry gives the priority. -/
theorem tileRecord_priority : (tileRecord r d entry).priority = entry.toNat.testBit 13 := rfl

/-- R313: the bit above the priority gives the horizontal flip. -/
theorem tileRecord_hFlip : (tileRecord r d entry).hFlip = entry.toNat.testBit 14 := rfl

/-- R313: the top bit of the entry gives the vertical flip. -/
theorem tileRecord_vFlip : (tileRecord r d entry).vFlip = entry.toNat.testBit 15 := rfl

/-- R314, R315: the tile's data stands at its index, in tiles of the layer's depth, above the tileset's base. -/
theorem tileRecord_dataAddr : (tileRecord r d entry).dataAddr =
    r.tilesetBase.toNat * 8192 + entry.toNat % 1024 * (8 * d) := by
  simp [tileRecord, bytesPerTile, Nat.shiftLeft_eq]

end TileRecord

end Sys2Proof.Machine

namespace Sys2Proof

open Sys2Proof.Machine

/-- Settles O48: TMADDR answers `tilemapAddress`, which is the formula with the table's quadrant. -/
theorem tilemapAddressFollowsTheQuadrants : Obligations.TilemapAddressFollowsTheQuadrants := fun layer x y s =>
  ⟨(Laws.RoundTrip.tmaddr layer x y).2, _, rfl, congrArg Result.address (tilemapAddress_eq (s.layer layer) x y),
    onlyResult_answer s _⟩

/-- Settles O50: TILE reads the two bytes of one entry, and each field of the record is that of the 16-bit word they
make. -/
theorem tileReturnsTheRecordOfItsEntry : Obligations.TileReturnsTheRecordOfItsEntry := by
  intro layer x y d s listed
  have depth : colorDepth s.screenMode layer = some d := (colorDepth_eq_listedDepth ..).trans listed
  obtain ⟨e0, e1, may0, may1, reads⟩ := s.entryAt_spec (tilemapAddress (s.layer layer) x y)
  have run := exec_tile_of_some depth x y
  rw [reads] at run
  have word : (e1 ++ e0 : BitVec 16).toNat = e1.toNat * 256 + e0.toNat := append_toNat ..
  refine ⟨(Laws.RoundTrip.tile layer x y).2, _, _, e0, e1, _, _, run, tilemapAddress_eq .., ?log, may0, may1, rfl,
    word, rfl, tileRecord_palette_toNat .., tileRecord_priority .., tileRecord_hFlip .., tileRecord_vFlip .., rfl,
    tileRecord_dataAddr .., rfl, rfl, ?frame⟩
  case log => simp [State.vramAddr]
  case frame => exact onlyReads_answer (onlyReads_logVramRead (onlyReads_logVramRead (onlyReads_refl s) ..) ..) _

end Sys2Proof

namespace Sys2Proof.Machine

/-! ### What the updates of the Mode-7 unit leave unchanged -/

theorem onlyMode7_refl (s : State) : OnlyMode7 s s :=
  ⟨⟨rfl, rfl, rfl⟩, ⟨fun _ => rfl, rfl, rfl⟩, ⟨rfl, rfl⟩, ⟨rfl, rfl, rfl, rfl, rfl, rfl⟩, fun _ => rfl,
    ⟨fun _ => rfl, fun _ => rfl⟩, ⟨rfl, rfl⟩, ⟨rfl, rfl, rfl⟩⟩

theorem onlyMode7_setM7 {s t : State} (h : OnlyMode7 s t) (m : Mode7) : OnlyMode7 s (t.setM7 m) := h

theorem onlyMode7_answer {s t : State} (h : OnlyMode7 s t) (r : Result) : OnlyMode7 s (t.answer r) := h

/-! ### One cascade write (R342 to R349) -/

/-- R342: the written parameter takes the byte above the low byte of the cache. -/
theorem Mode7.cascade_param_self_toNat (m : Mode7) (p : M7Param) (b : Byte) :
    ((m.cascade p b).param p).toNat = b.toNat * 256 + m.cache.toNat % 256 := by
  obtain ⟨value, -⟩ := m.cascade_spec p b
  exact value

/-- R342: the cache takes the byte. -/
theorem Mode7.cascade_cache_toNat (m : Mode7) (p : M7Param) (b : Byte) : (m.cascade p b).cache.toNat = b.toNat := by
  obtain ⟨-, cache, -⟩ := m.cascade_spec p b
  exact cache

/-- R342: every other parameter stays. -/
theorem Mode7.cascade_param_ne (m : Mode7) {p q : M7Param} (h : q ≠ p) (b : Byte) :
    (m.cascade p b).param q = m.param q := by
  obtain ⟨-, -, others, -⟩ := m.cascade_spec p b
  exact others q h

/-- R342, R349: a cascade write completes from every state, and the Mode-7 record makes the cascade transition. -/
theorem exec_cascadeWrite (p : M7Param) (b : Byte) (s : State) :
    ∃ t, exec (cascadeWrite p b) s = .next t ∧ t.m7 = s.m7.cascade p b := by
  cases p with
  | a | b | c | d | hofs | vofs | x | y => exact ⟨_, rfl, rfl⟩

/-- R343 to R348: a register whose operation ends in `m7write` and returns nothing is a parameter register. -/
theorem parameterWrite_of_m7write {addr : BitVec 16} {p : M7Param}
    (decoded : ∀ b, decode (.mmioWrite addr b) = .ok (cascadeWrite p b))
    (run : ∀ b s, exec (cascadeWrite p b) s = (s.m7write p b).written) : ParameterWrite addr p := fun b s =>
  ⟨decoded b, _, run b s, s.m7.cascade_spec p b, rfl, onlyMode7_answer (onlyMode7_setM7 (onlyMode7_refl s) _) _⟩

/-! ### A sequence of cascade writes (R350) -/

/-- The Mode-7 record after cascade transitions in the order given. -/
def Mode7.cascades (m : Mode7) (writes : List (M7Param × Byte)) : Mode7 :=
  writes.foldl (fun m w => m.cascade w.1 w.2) m

theorem Mode7.cascades_append (m : Mode7) (before after : List (M7Param × Byte)) :
    m.cascades (before ++ after) = (m.cascades before).cascades after := List.foldl_append

/-- A sequence of cascade writes completes from every state, and the Mode-7 record makes their transitions in order. -/
theorem runOps_cascadeWrites (writes : List (M7Param × Byte)) (s : State) :
    ∃ t, Safety.runOps (writes.map fun w => cascadeWrite w.1 w.2) s = .next t ∧ t.m7 = s.m7.cascades writes := by
  induction writes generalizing s with
  | nil => exact ⟨s, rfl, rfl⟩
  | cons w writes ih =>
    obtain ⟨u, first, mode7⟩ := exec_cascadeWrite w.1 w.2 s
    obtain ⟨t, rest, final⟩ := ih u
    refine ⟨t, ?_, final.trans (congrArg (Mode7.cascades · writes) mode7)⟩
    simp only [List.map_cons, Safety.runOps, first, rest]

/-- R342: transitions for other parameters leave a parameter as it is. -/
theorem Mode7.cascades_param_of_ne {p : M7Param} {writes : List (M7Param × Byte)} (other : ∀ w ∈ writes, w.1 ≠ p)
    (m : Mode7) : (m.cascades writes).param p = m.param p := by
  induction writes generalizing m with
  | nil => rfl
  | cons w writes ih =>
    obtain ⟨head, tail⟩ := List.forall_mem_cons.mp other
    exact (ih tail (m.cascade w.1 w.2)).trans (m.cascade_param_ne head.symm w.2)

/-- R350: the cache's low byte is the byte of the last cascade write, and without one what it was. -/
theorem Mode7.cascades_cache_lowByte (m : Mode7) (writes : List (M7Param × Byte)) :
    (m.cascades writes).cache.toNat % 256 = writes.getLast?.elim (m.cache.toNat % 256) fun w => w.2.toNat := by
  obtain rfl | ⟨init, last, rfl⟩ := writes.eq_nil_or_concat'
  · rfl
  · have cache : (m.cascades (init ++ [last])).cache.toNat = last.2.toNat := by
      rw [cascades_append]
      exact cascade_cache_toNat ..
    rw [cache, Nat.mod_eq_of_lt last.2.isLt, List.getLast?_concat]
    rfl

/-! ### Operations between two cascade writes (R351) -/

/-- R351: a sequence of operations without a cascade write leaves the cache as it is. -/
theorem runOps_keeps_cache {ops : List Instr} {s t : State} (other : ∀ i ∈ ops, ¬ IsCascadeWrite i)
    (run : Safety.runOps ops s = .next t) : t.m7.cache = s.m7.cache :=
  runOps_keeps (P := fun u => u.m7.cache = s.m7.cache)
    (fun i hi _ _ before h => (exec_keeps_cascade (other i hi) h).1.trans before) rfl run

end Sys2Proof.Machine

namespace Sys2Proof

open Sys2Proof.Machine

/-- Settles O44: the six registers differ in parameter and address; each makes the cascade transition alone. -/
theorem parameterRegistersCascade : Obligations.ParameterRegistersCascade :=
  ⟨parameterWrite_of_m7write (fun b => (Laws.RoundTrip.m7a b).2) fun _ _ => rfl,
    parameterWrite_of_m7write (fun b => (Laws.RoundTrip.m7b b).2) fun _ _ => rfl,
    parameterWrite_of_m7write (fun b => (Laws.RoundTrip.m7c b).2) fun _ _ => rfl,
    parameterWrite_of_m7write (fun b => (Laws.RoundTrip.m7d b).2) fun _ _ => rfl,
    parameterWrite_of_m7write (fun b => (Laws.RoundTrip.m7x b).2) fun _ _ => rfl,
    parameterWrite_of_m7write (fun b => (Laws.RoundTrip.m7y b).2) fun _ _ => rfl⟩

/-- Settles O45: the writes before leave the previous byte in the cache, the write puts its own byte above it, and the
writes after go to other parameters. -/
theorem parameterLowByteIsThePreviousCascadeByte : Obligations.ParameterLowByteIsThePreviousCascadeByte := by
  refine ⟨fun _ _ => rfl, fun before after p b s other => ?_⟩
  obtain ⟨t, run, mode7⟩ := runOps_cascadeWrites (before ++ (p, b) :: after) s
  have value : (t.m7.param p).toNat = b.toNat * 256 + (s.m7.cascades before).cache.toNat % 256 := by
    rw [mode7, Mode7.cascades_append]
    exact (congrArg BitVec.toNat (Mode7.cascades_param_of_ne other _)).trans (Mode7.cascade_param_self_toNat ..)
  refine ⟨t, run, ?_⟩
  rw [value, Mode7.cascades_cache_lowByte]
  cases before.getLast? with
  | none | some => rfl

/-- Settles O46: the operations between keep the cache, so the second write finds `lo` in it. -/
theorem lowThenHighPairSetsAParameter : Obligations.LowThenHighPairSetsAParameter := by
  intro p lo hi s
  obtain ⟨t, first, afterLow⟩ := exec_cascadeWrite p lo s
  refine ⟨t, first, fun between u other run => ?_⟩
  obtain ⟨v, second, afterHigh⟩ := exec_cascadeWrite p hi u
  have cache : u.m7.cache.toNat = lo.toNat := by
    rw [runOps_keeps_cache other run, afterLow, Mode7.cascade_cache_toNat]
  refine ⟨v, second, ?_⟩
  rw [afterHigh, Mode7.cascade_param_self_toNat, cache, Nat.mod_eq_of_lt lo.isLt]

/-- Settles O43: M7SEL replaces the three settings of the record, which neither the cache nor a parameter reads. -/
theorem m7selStoresSettingsOnly : Obligations.M7selStoresSettingsOnly := by
  intro b s
  have screenOver : (field b 6 2).toNat = b.toNat / 64 := by
    have := b.isLt
    rw [field_toNat]
    omega
  refine ⟨(Laws.RoundTrip.m7sel b).2, _, rfl, screenOver, flagBit_eq b 1, flagBit_eq b 0, rfl, fun p => ?parameters,
    rfl, onlyMode7_answer (onlyMode7_setM7 (onlyMode7_refl s) _) _⟩
  case parameters =>
    cases p with
    | a | b | c | d | hofs | vofs | x | y => rfl

end Sys2Proof

namespace Sys2Proof.Machine

/-! ### What the updates of the OAM Unit leave unchanged -/

theorem onlyOam_refl (s : State) : OnlyOam s s :=
  ⟨⟨rfl, rfl, rfl⟩, ⟨fun _ => rfl, rfl, rfl⟩, ⟨rfl, rfl⟩, rfl, ⟨fun _ => rfl, fun _ => rfl⟩, ⟨rfl, rfl⟩,
    ⟨rfl, rfl, rfl⟩⟩

theorem onlyOam_setOam {s t : State} (h : OnlyOam s t) (o : Oam) : OnlyOam s (t.setOam o) := h

theorem onlyOam_answer {s t : State} (h : OnlyOam s t) (r : Result) : OnlyOam s (t.answer r) := h

/-! ### The address register (R360, R361) -/

/-- The unit with bits 7:0 of its address register replaced (R360). -/
def Oam.withAddressLow (o : Oam) (b : Byte) : Oam := { o with addrReg := o.addrReg.extractLsb' 8 1 ++ b }

/-- The address register with bit 8 replaced by bit 0 of a byte (R361). -/
def Oam.highAddress (o : Oam) (b : Byte) : BitVec 9 := field b 0 1 ++ o.addrReg.extractLsb' 0 8

/-- The unit with its pointer and last address reloaded from the address register that a byte completes (R361). -/
def Oam.reloaded (o : Oam) (b : Byte) : Oam :=
  { o with
    addrReg := o.highAddress b
    prioRot := flagBit b 7
    word := o.highAddress b
    flip := false
    last := o.highAddress b }

theorem exec_oamaddl (b : Byte) (s : State) : exec (.oamaddl b) s = (s.setOam (s.oam.withAddressLow b)).written := rfl

theorem exec_oamaddh (b : Byte) (s : State) : exec (.oamaddh b) s = (s.setOam (s.oam.reloaded b)).written := rfl

theorem Oam.withAddressLow_addrReg_toNat (o : Oam) (b : Byte) :
    (o.withAddressLow b).addrReg.toNat = o.addrReg.toNat / 256 * 256 + b.toNat := by
  have top : (o.addrReg.extractLsb' 8 1).toNat = o.addrReg.toNat / 256 := by
    have := o.addrReg.isLt
    simp only [BitVec.extractLsb'_toNat, Nat.shiftRight_eq_div_pow]
    omega
  exact (append_toNat ..).trans (congrArg (· * 256 + b.toNat) top)

theorem Oam.highAddress_toNat (o : Oam) (b : Byte) :
    (o.highAddress b).toNat = b.toNat % 2 * 256 + o.addrReg.toNat % 256 :=
  (append_toNat ..).trans (by simp [field_toNat])

/-- R367: the same high byte completes the address register to the same address again. -/
theorem Oam.highAddress_of_addrReg_eq {o o' : Oam} {b : Byte} (h : o'.addrReg = o.highAddress b) :
    o'.highAddress b = o.highAddress b := by
  apply BitVec.eq_of_toNat_eq
  rw [highAddress_toNat, h, highAddress_toNat]
  omega

/-! ### The advance (R362) -/

theorem Oam.advance_of_even {o : Oam} (even : o.flip = false) : o.advance = { o with flip := true } := by
  simp [advance, even]

theorem Oam.advance_of_odd {o : Oam} (odd : o.flip = true) :
    o.advance = { o with flip := false, word := o.word + 1 } := by
  simp [advance, odd]

/-- R362: the advance reads neither the bytes nor the latch. -/
theorem Oam.advance_of_bytes_latch (o : Oam) (bytes : Memory) (latch : Byte) :
    { o with bytes := bytes, latch := latch }.advance = { o.advance with bytes := bytes, latch := latch } := by
  cases parity : o.flip with
  | false | true => simp [advance, parity]

/-! ### The data accesses (R363, R365) -/

section DataAccess

variable {s : State} (b : Byte)

/-- R363: an even write sets the latch and the parity. -/
theorem exec_oamdata_of_even (even : s.oam.flip = false) :
    exec (.oamdata b) s = (s.setOam { s.oam with latch := b, flip := true }).written := by
  simp [exec, execOamdata, even, Oam.advance_of_even]

/-- R363: an odd write within the array commits, then advances. -/
theorem exec_oamdata_of_odd (odd : s.oam.flip = true) (inside : s.oam.word.toNat < 272) :
    exec (.oamdata b) s = (s.setOam (s.oam.commit b).advance).written := by
  have fits : ¬ s.oam.wordPosition + 1 ≥ Config.oamSize := by
    simp only [Oam.wordPosition, Config.oamSize]
    omega
  simp only [exec, execOamdata, odd, if_true, if_neg fits]

/-- R401: an odd write beyond the array faults. -/
theorem exec_oamdata_of_beyond (odd : s.oam.flip = true) (beyond : 272 ≤ s.oam.word.toNat) :
    exec (.oamdata b) s = .fault (.oamOutOfRange (s.oam.word.toNat * 2)) := by
  have exceeds : s.oam.wordPosition + 1 ≥ Config.oamSize := by
    simp only [Oam.wordPosition, Config.oamSize]
    omega
  simp only [exec, execOamdata, odd, if_true, if_pos exceeds]
  rfl

/-- R365: a read within the array answers the byte at the position and advances. -/
theorem exec_oamdataread_of_inside (inside : s.oam.position < 544) :
    exec .oamdataread s = .next ((s.setOam s.oam.advance).answer (.byte (s.oam.byteAt s.oam.position))) :=
  if_neg (Nat.not_le_of_lt inside)

/-- R401: a read beyond the array faults. -/
theorem exec_oamdataread_of_beyond (beyond : 544 ≤ s.oam.position) :
    exec .oamdataread s = .fault (.oamOutOfRange s.oam.position) :=
  if_pos beyond

end DataAccess

/-- R363: a commit at an odd position moves on to the next word. -/
theorem Oam.commit_advance_of_odd {o : Oam} (odd : o.flip = true) (b : Byte) :
    (o.commit b).advance = { o with bytes := (o.commit b).bytes, flip := false, word := o.word + 1 } :=
  advance_of_odd odd

/-- R362: a data access that answers a next state advances the pointer; besides it, it can change bytes and latch. -/
theorem oam_of_access {i : Instr} {s t : State} (access : IsOamAccess i) (run : exec i s = .next t) :
    ∃ bytes latch, t.oam = { s.oam.advance with bytes := bytes, latch := latch } := by
  obtain ⟨b, rfl⟩ | rfl := access
  · simp only [exec, execOamdata] at run
    split at run
    · split at run <;> cases run
      exact ⟨_, _, s.oam.advance_of_bytes_latch (s.oam.commit b).bytes s.oam.latch⟩
    · cases run
      exact ⟨_, _, s.oam.advance_of_bytes_latch s.oam.bytes b⟩
  · simp only [exec, execOamdataread] at run
    split at run <;> cases run
    exact ⟨_, _, rfl⟩

/-- R362: data accesses leave the address register as it is. -/
theorem runOps_keeps_oamAddrReg {accesses : List Instr} {s t : State} (access : ∀ i ∈ accesses, IsOamAccess i)
    (run : Safety.runOps accesses s = .next t) : t.oam.addrReg = s.oam.addrReg := by
  refine runOps_keeps (P := fun u => u.oam.addrReg = s.oam.addrReg) (fun i hi u v before step => ?_) rfl run
  obtain ⟨bytes, latch, oam⟩ := oam_of_access (access i hi) step
  rw [oam]
  exact u.oam.advance_addrReg.trans before

end Sys2Proof.Machine

namespace Sys2Proof

open Sys2Proof.Machine

/-- Settles O52: OAMADDL replaces one field of the unit. -/
theorem oamAddressLowChangesTheRegisterOnly : Obligations.OamAddressLowChangesTheRegisterOnly := fun b s =>
  ⟨(Laws.RoundTrip.oamaddl b).2, _, exec_oamaddl b s, s.oam.withAddressLow_addrReg_toNat b, rfl, rfl, rfl, rfl, rfl,
    fun _ => rfl, rfl, onlyOam_answer (onlyOam_setOam (onlyOam_refl s) _) _⟩

/-- Settles O53: OAMADDH reloads the pointer and the last address from the register it completes. -/
theorem oamAddressHighReloadsThePointer : Obligations.OamAddressHighReloadsThePointer := fun b s =>
  ⟨(Laws.RoundTrip.oamaddh b).2, _, exec_oamaddh b s, s.oam.highAddress_toNat b, rfl, rfl, rfl, flagBit_eq b 7, rfl,
    fun _ => rfl, rfl, onlyOam_answer (onlyOam_setOam (onlyOam_refl s) _) _⟩

/-- Settles O54: one equation for each of the three cases; the changed bytes are those of the commit, which the advance
keeps. -/
theorem oamDataBuffersThenCommits : Obligations.OamDataBuffersThenCommits := by
  refine fun b s => ⟨(Laws.RoundTrip.oamdata b).2, fun even => ?even, fun odd inside => ?odd,
    exec_oamdata_of_beyond b⟩
  case even =>
    exact ⟨_, exec_oamdata_of_even b even, rfl, rfl, onlyOam_answer (onlyOam_setOam (onlyOam_refl s) _) _⟩
  case odd =>
    have bytes (k : Nat) : (s.oam.commit b).advance.byteAt k =
        if k = s.oam.word.toNat * 2 + 1 then b else if k = s.oam.word.toNat * 2 then s.oam.latch
        else s.oam.byteAt k := by
      rw [Oam.advance_byteAt, Oam.commit_byteAt]
      rfl
    have word : (s.oam.word + 1).toNat = s.oam.word.toNat + 1 := by
      rw [BitVec.toNat_add]
      exact Nat.mod_eq_of_lt (by simp; omega)
    refine ⟨_, exec_oamdata_of_odd b odd inside, (bytes _).trans (by simp), (bytes _).trans (if_pos rfl),
      fun i first second => (bytes i).trans ?others, ?word, ?parity, Oam.advance_latch _,
      Oam.advance_addrReg _, Oam.advance_prioRot _, Oam.advance_last _, rfl,
      onlyOam_answer (onlyOam_setOam (onlyOam_refl s) _) _⟩
    case others => rw [if_neg second, if_neg first]
    case word => exact (congrArg (·.word.toNat) (Oam.commit_advance_of_odd odd b)).trans word
    case parity => exact congrArg Oam.flip (Oam.commit_advance_of_odd odd b)

/-- Settles O55: the read answers from the array and advances; within the array the position does not wrap. -/
theorem oamDataReadReturnsTheArrayByte : Obligations.OamDataReadReturnsTheArrayByte := by
  refine fun s => ⟨Laws.RoundTrip.oamdataread.2, fun (inside : s.oam.position < 544) => ?_,
    exec_oamdataread_of_beyond⟩
  have next : s.oam.advance.position = s.oam.position + 1 :=
    s.oam.advance_position.trans (Nat.mod_eq_of_lt (by omega))
  exact ⟨_, exec_oamdataread_of_inside inside, rfl, next, s.oam.advance_byteAt, s.oam.advance_latch,
    s.oam.advance_addrReg, s.oam.advance_prioRot, s.oam.advance_last,
    onlyOam_answer (onlyOam_setOam (onlyOam_refl s) _) _⟩

/-- Settles O56: what an access changes besides the advance is bytes and latch. -/
theorem dataAccessesAdvanceThePositionByOne : Obligations.DataAccessesAdvanceThePositionByOne := by
  refine ⟨Oam.advance_position, fun i s t access run => ?_⟩
  obtain ⟨bytes, latch, oam⟩ := oam_of_access access run
  rw [oam]
  exact ⟨rfl, rfl⟩

/-- Settles O58: the accesses keep the address register that the first OAMADDH completed, and the second completes it to
the same address. -/
theorem repeatedAddressHighRestoresThePointer : Obligations.RepeatedAddressHighRestoresThePointer := by
  intro low high accesses s t u access setup run
  cases setup
  have restored : u.oam.highAddress high = (s.oam.withAddressLow low).highAddress high :=
    Oam.highAddress_of_addrReg_eq (runOps_keeps_oamAddrReg access run)
  refine ⟨_, exec_oamaddh high u, restored, restored, ?_, rfl, rfl⟩
  calc (u.oam.highAddress high).toNat
      = high.toNat % 2 * 256 + (s.oam.addrReg.toNat / 256 * 256 + low.toNat) % 256 := by
        rw [restored, Oam.highAddress_toNat, Oam.withAddressLow_addrReg_toNat]
    _ = high.toNat % 2 * 256 + low.toNat := by
        have := low.isLt
        omega

/-- Settles O57: the six operations are run; none of them reads the parameters or the owner. -/
theorem interleavedOamScenario : Obligations.InterleavedOamScenario := fun _ _ =>
  ⟨_, _, _, _, _, _, rfl, rfl, rfl, rfl, rfl, rfl, rfl, rfl, rfl, rfl, rfl, rfl, rfl⟩

end Sys2Proof

namespace Sys2Proof.Machine

/-! ### How an operation ends (R400, R401, R403) -/

/-- R400: where the layer has no depth in the current mode, TILE ends in a ConfigurationError. -/
theorem exec_tile_of_none {s : State} {layer : Fin 4} (h : colorDepth s.screenMode layer = none) (x y : Nat) :
    exec (.tile layer x y) s = .fault (.configurationError s.screenMode layer) := by
  simp only [exec, execTile, h]

/-- R271, R313: run in `s`, the operation looks up the color depth of this mode and layer. -/
def LooksUpDepth (i : Instr) (s : State) (mode : BitVec 3) (layer : Fin 4) : Prop :=
  i = .cdepth mode layer ∨ (mode = s.screenMode ∧ ∃ x y, i = .tile layer x y)

/-- R403: an operation answers a next state, or it misses the depth it looks up, or it is an OAM access beyond the
array. -/
theorem exec_cases (i : Instr) (s : State) :
    (∃ t, exec i s = .next t) ∨
    (∃ mode layer, exec i s = .fault (.configurationError mode layer) ∧ colorDepth mode layer = none ∧
      LooksUpDepth i s mode layer) ∨
    (∃ p, exec i s = .fault (.oamOutOfRange p) ∧ 544 ≤ p ∧ IsOamAccess i) := by
  cases i
  case cdepth mode layer =>
    cases depth : colorDepth mode layer with
    | some d => exact .inl ⟨_, exec_cdepth_of_some depth s⟩
    | none => exact .inr (.inl ⟨_, _, exec_cdepth_of_none depth s, depth, .inl rfl⟩)
  case tile layer x y =>
    cases depth : colorDepth s.screenMode layer with
    | some d => exact .inl ⟨_, exec_tile_of_some depth x y⟩
    | none => exact .inr (.inl ⟨_, _, exec_tile_of_none depth x y, depth, .inr ⟨rfl, x, y, rfl⟩⟩)
  case oamdata b =>
    cases parity : s.oam.flip with
    | false => exact .inl ⟨_, exec_oamdata_of_even b parity⟩
    | true =>
      rcases Nat.lt_or_ge s.oam.word.toNat 272 with inside | beyond
      · exact .inl ⟨_, exec_oamdata_of_odd b parity inside⟩
      · exact .inr (.inr ⟨_, exec_oamdata_of_beyond b parity beyond, by omega, .inl ⟨b, rfl⟩⟩)
  case oamdataread =>
    rcases Nat.lt_or_ge s.oam.position 544 with inside | beyond
    · exact .inl ⟨_, exec_oamdataread_of_inside inside⟩
    · exact .inr (.inr ⟨_, exec_oamdataread_of_beyond beyond, beyond, .inr rfl⟩)
  all_goals exact .inl ⟨_, rfl⟩

/-- R400: a ConfigurationError names the pair that was looked up, which has no depth. -/
theorem lookup_of_configurationError {i : Instr} {s : State} {mode : BitVec 3} {layer : Fin 4}
    (h : exec i s = .fault (.configurationError mode layer)) :
    colorDepth mode layer = none ∧ LooksUpDepth i s mode layer := by
  obtain ⟨t, run⟩ | ⟨m, l, run, missing, lookup⟩ | ⟨p, run, -, -⟩ := exec_cases i s <;> cases run.symm.trans h
  exact ⟨missing, lookup⟩

/-! ### How a step ends (R406, R407) -/

/-- R101, R110, R120: an operation's own request decodes to it. -/
theorem decode_encode (i : Instr) : decode (encode i) = .ok i := by
  cases i
  case abs => exact (Laws.RoundTrip.abs _).2
  case absx => exact (Laws.RoundTrip.absx _).2
  case absy => exact (Laws.RoundTrip.absy _).2
  case tmaddr => exact (Laws.RoundTrip.tmaddr ..).2
  case tile => exact (Laws.RoundTrip.tile ..).2
  case validbg => exact (Laws.RoundTrip.validbg _).2
  case cdepth => exact (Laws.RoundTrip.cdepth ..).2
  all_goals rfl

/-- R406: the step that takes a request from the owner settles the outcome of the operation it decodes to. -/
theorem step_of_request {s : State} {r : Request} {i : Instr} {rest : List Input}
    (first : s.inputs = .request s.owner r :: rest) (decoded : decode r = .ok i) :
    step s = settle (s.setInputs rest) (exec i (s.setInputs rest)) := by
  have accepted : acceptRequest (s.setInputs rest) s.owner r = .run i (s.setInputs rest) := acceptRequest_ok decoded
  simp only [step, takeInput, first, accepted]

/-- R406, R407: the step returns an operation's fault to its caller and records it. -/
theorem step_of_fault {s : State} {i : Instr} {rest : List Input} {f : Fault}
    (first : s.inputs = .request s.owner (encode i) :: rest) (run : exec i { s with inputs := rest } = .fault f) :
    step s = .next ((s.setInputs rest).reportFault f) :=
  (step_of_request first (decode_encode i)).trans (congrArg (settle (s.setInputs rest)) run)

/-- R403, R407: whatever an operation ends in, its caller is answered with a next state. -/
theorem settle_exec_next (i : Instr) (s : State) : ∃ t, settle s (exec i s) = .next t := by
  obtain ⟨t, run⟩ | ⟨mode, layer, run, -, -⟩ | ⟨p, run, -, -⟩ := exec_cases i s <;> exact ⟨_, congrArg (settle s) run⟩

/-- R442: every step answers a next state. -/
theorem step_next (s : State) : ∃ t, step s = .next t := by
  cases taken : takeInput s with
  | idle => exact ⟨s, by simp only [step, taken]⟩
  | done t => exact ⟨t, by simp only [step, taken]⟩
  | run i t => simpa only [step, taken] using settle_exec_next i t

/-! ### How many reads an operation makes (R442) -/

theorem busReadCount_le (i : Instr) : busReadCount i ≤ 3 := by
  unfold busReadCount
  split <;> decide

theorem vramReadCount_le (i : Instr) : vramReadCount i ≤ 2 := by
  unfold vramReadCount
  split <;> decide

/-- R212: a 16-bit pointer takes two Memory Bus reads. -/
theorem State.ptr16_busReads (s : State) (op8 : Byte) (i : BitVec 16) :
    ∃ reads, (s.ptr16 op8 i).2.busLog = s.busLog ++ reads ∧ reads.length = 2 := by
  obtain ⟨b0, b1, -, -, reads⟩ := s.ptr16_spec op8 i
  exact ⟨[(dpByte s.regs op8 i 0, b0), (dpByte s.regs op8 i 1, b1)], by simp [reads], rfl⟩

/-- R213: a 24-bit pointer takes three Memory Bus reads. -/
theorem State.ptr24_busReads (s : State) (op8 : Byte) (i : BitVec 16) :
    ∃ reads, (s.ptr24 op8 i).2.busLog = s.busLog ++ reads ∧ reads.length = 3 := by
  obtain ⟨b0, b1, b2, -, -, -, reads⟩ := s.ptr24_spec op8 i
  exact ⟨[(dpByte s.regs op8 i 0, b0), (dpByte s.regs op8 i 1, b1), (dpByte s.regs op8 i 2, b2)], by simp [reads], rfl⟩

/-- R313: a tilemap entry takes two VRAM reads. -/
theorem State.entryAt_vramReads (s : State) (a : Nat) :
    ∃ reads, (s.entryAt a).2.vramLog = s.vramLog ++ reads ∧ reads.length = 2 := by
  obtain ⟨e0, e1, -, -, reads⟩ := s.entryAt_spec a
  exact ⟨[(s.vramAddr a, e0), (s.vramAddr (a + 1), e1)], by simp [reads], rfl⟩

/-- R442: only a pointer fetch reads the Memory Bus. -/
theorem exec_busReads {i : Instr} {s t : State} (h : exec i s = .next t) :
    ∃ reads, t.busLog = s.busLog ++ reads ∧ reads.length = busReadCount i := by
  cases i
  case dpind | dpxind | dpindy =>
    cases h
    exact s.ptr16_busReads ..
  case dpindl | dpindly =>
    cases h
    exact s.ptr24_busReads ..
  all_goals exact ⟨[], (exec_keeps_busLog rfl h).trans (List.append_nil _).symm, rfl⟩

/-- R84: an operation other than TILE makes no VRAM read. -/
theorem exec_keeps_vramLog {i : Instr} {s t : State} (noRead : vramReadCount i = 0) (h : exec i s = .next t) :
    t.vramLog = s.vramLog := by
  cases i
  case tile => cases noRead
  case cdepth => rw [execCdepth_only h]
  case oamdata => rw [execOamdata_only h]
  case oamdataread => rw [execOamdataread_only h]
  all_goals
    cases h
    rfl

/-- R442: only the fetch of a tilemap entry reads video memory. -/
theorem exec_vramReads {i : Instr} {s t : State} (h : exec i s = .next t) :
    ∃ reads, t.vramLog = s.vramLog ++ reads ∧ reads.length = vramReadCount i := by
  cases i
  case tile layer x y =>
    cases depth : colorDepth s.screenMode layer with
    | none => cases (exec_tile_of_none depth x y).symm.trans h
    | some d =>
      cases (exec_tile_of_some depth x y).symm.trans h
      exact s.entryAt_vramReads _
  all_goals exact ⟨[], (exec_keeps_vramLog rfl h).trans (List.append_nil _).symm, rfl⟩

end Sys2Proof.Machine

namespace Sys2Proof

open Sys2Proof.Machine

/-- Settles O12: `exec_cases` lists the ways an operation ends. -/
theorem onlyTheNamedOperationsCanFail : Obligations.OnlyTheNamedOperationsCanFail := fun i s =>
  (exec_cases i s).imp_right (.imp_left fun ⟨mode, layer, run, _, lookup⟩ => ⟨mode, layer, run, lookup⟩)

/-- Settles O13: no operation is refused, so each step answers; the reads are those of a pointer or a tilemap entry, and
recording a fault adds none. -/
theorem everyStepEndsAfterBoundedReads : Obligations.EveryStepEndsAfterBoundedReads := by
  refine ⟨step_next, fun i s => ⟨fun t run => ⟨?bus, ?vram⟩,
    fun f rest run first => ⟨_, step_of_fault first run, rfl, rfl⟩⟩⟩
  case bus =>
    obtain ⟨reads, log, count⟩ := exec_busReads run
    exact ⟨reads, log, count, count ▸ busReadCount_le i⟩
  case vram =>
    obtain ⟨reads, log, count⟩ := exec_vramReads run
    exact ⟨reads, log, count, count ▸ vramReadCount_le i⟩

/-- Settles O14: the source's lists are the table that both operations look up before anything else. -/
theorem missingColorDepthIsAConfigurationError : Obligations.MissingColorDepthIsAConfigurationError := by
  simp only [Obligations.MissingColorDepthIsAConfigurationError, ← colorDepth_eq_listedDepth]
  refine ⟨fun _ _ => rfl, fun _ _ s missing => exec_cdepth_of_none missing s,
    fun _ x y _ missing => exec_tile_of_none missing x y, fun i s mode layer fault => ?named,
    fun i s rest mode layer first run => ⟨_, step_of_fault first run, rfl, rfl⟩⟩
  case named =>
    obtain ⟨missing, lookup⟩ := lookup_of_configurationError fault
    exact ⟨missing, lookup.imp_right And.right⟩

/-- Settles O15: both operations check the position first, and the step returns the fault with the state before it. -/
theorem oamAccessBeyondTheArrayFaultsWithoutEffect : Obligations.OamAccessBeyondTheArrayFaultsWithoutEffect :=
  ⟨fun _ => rfl, fun b _ odd beyond => exec_oamdata_of_beyond b odd (by omega),
    fun _ beyond => exec_oamdataread_of_beyond beyond,
    fun _ _ _ _ first run => ⟨_, step_of_fault first run, rfl, rfl⟩⟩

end Sys2Proof

namespace Sys2Proof.Machine

/-! ### Scroll writes and parameter writes between each other (R436) -/

/-- The rest of a sequence runs from the state its first operation answers. -/
theorem runOps_cons_of_next {i : Instr} {s t : State} (first : exec i s = .next t) (ops : List Instr) :
    Safety.runOps (i :: ops) s = Safety.runOps ops t := by
  simp only [Safety.runOps, first]

/-- Three operations that each answer a next state run to the last of these states. -/
theorem runOps_three {i j k : Instr} {s t u v : State} (first : exec i s = .next t) (second : exec j t = .next u)
    (third : exec k u = .next v) : Safety.runOps [i, j, k] s = .next v :=
  calc Safety.runOps [i, j, k] s
      = Safety.runOps [j, k] t := runOps_cons_of_next first _
    _ = Safety.runOps [k] u := runOps_cons_of_next second _
    _ = .next v := runOps_cons_of_next third _

/-- R342: over a cache that holds a byte, the written parameter takes that byte as its low byte. -/
theorem Mode7.cascade_param_toNat_of_cache {m : Mode7} {lo : Byte} (cache : m.cache.toNat = lo.toNat) (p : M7Param)
    (hi : Byte) : ((m.cascade p hi).param p).toNat = hi.toNat * 256 + lo.toNat := by
  rw [cascade_param_self_toNat, cache, Nat.mod_eq_of_lt lo.isLt]

/-- R343 to R348: a write of a parameter that no scroll register feeds leaves its byte in the cache and both scroll
latches as they were. -/
theorem exec_cascadeWrite_of_not_scroll {p : M7Param} (notHofs : p ≠ .hofs) (notVofs : p ≠ .vofs) (b : Byte)
    (s : State) : ∃ t, exec (cascadeWrite p b) s = .next t ∧ t.m7.cache.toNat = b.toNat ∧ SameLatches s t := by
  obtain ⟨t, run, mode7⟩ := exec_cascadeWrite p b s
  refine ⟨t, run, by rw [mode7, Mode7.cascade_cache_toNat], ?_⟩
  cases p with
  | hofs => exact absurd rfl notHofs
  | vofs => exact absurd rfl notVofs
  | a | b | c | d | x | y =>
    cases run
    exact ⟨rfl, rfl⟩

end Sys2Proof.Machine

namespace Sys2Proof

open Sys2Proof.Machine

/-- Settles O47: a layer-0 scroll write is a cascade write, so a parameter takes whichever cascade byte came last; the
latches, which the scroll value is made from, are not in the cascade. -/
theorem layerZeroScrollInterleavesWithParameters : Obligations.LayerZeroScrollInterleavesWithParameters := by
  intro p lo mid hi s
  obtain ⟨-, lowByteIsLast⟩ := parameterLowByteIsThePreviousCascadeByte
  refine ⟨?cache, fun _ => lowByteIsLast [(p, lo), (.hofs, mid)] [] p hi s (by simp),
    fun _ => lowByteIsLast [(p, lo), (.vofs, mid)] [] p hi s (by simp),
    fun notHofs notVofs => ⟨?horizontal, ?vertical⟩, fun n t other run => ?otherLayer⟩
  case cache =>
    exact ⟨_, _, exec_hScrollWrite 0 mid s, s.m7.cascade_cache_toNat .hofs mid,
      exec_vScrollWrite 0 mid s, s.m7.cascade_cache_toNat .vofs mid⟩
  case horizontal =>
    obtain ⟨u, second, cache, latch1, latch2⟩ := exec_cascadeWrite_of_not_scroll notHofs notVofs mid (s.hScrolled 0 lo)
    refine ⟨_, runOps_three (exec_hScrollWrite 0 lo s) second (exec_hScrollWrite 0 hi u),
      Mode7.cascade_param_toNat_of_cache cache .hofs hi, ?_⟩
    rw [u.hScrolled_hScroll_toNat, latch1, latch2, s.hScrolled_latch1, s.hScrolled_latch2]
    omega
  case vertical =>
    obtain ⟨u, second, cache, latch1, -⟩ := exec_cascadeWrite_of_not_scroll notHofs notVofs mid (s.vScrolled 0 lo)
    refine ⟨_, runOps_three (exec_vScrollWrite 0 lo s) second (exec_vScrollWrite 0 hi u),
      Mode7.cascade_param_toNat_of_cache cache .vofs hi, ?_⟩
    rw [u.vScrolled_vScroll_toNat, latch1, s.vScrolled_latch1]
  case otherLayer =>
    obtain run | run := run
    · cases (exec_hScrollWrite n mid s).symm.trans run
      exact scrollMode7_of_ne_zero .hofs other s.m7 mid
    · cases (exec_vScrollWrite n mid s).symm.trans run
      exact scrollMode7_of_ne_zero .vofs other s.m7 mid

end Sys2Proof

namespace Sys2Proof

open Sys2Proof.Machine

/-! ### What decodes is the encoding of its operation (R101, R110, R120) -/

/-- What a lookup finds in a map is an entry of the map. -/
theorem mem_of_lookup {κ α : Type} [BEq κ] [LawfulBEq κ] {map : List (κ × α)} {k : κ} {v : α}
    (h : map.lookup k = some v) : (k, v) ∈ map := by
  obtain ⟨before, after, rfl, -⟩ := List.lookup_eq_some_iff.mp h
  simp

/-- R102: the operand bytes of an assembled `op16` are the bytes it was assembled from. -/
theorem bytesOfOp16_op16OfBytes (first second : Byte) : bytesOfOp16 (op16OfBytes first second) = [first, second] :=
  congrArg₂ (fun a b : Byte => [a, b]) BitVec.extractLsb'_append_eq_right BitVec.extractLsb'_append_eq_left

/-- The operations of an operand form are encoded under this selector, with the operand's own bytes. -/
def AreForm.EncodedUnder (mode : BitVec 4) : AreForm → Prop
  | .op16 make => ∀ op16, encode (make op16) = .are mode (bytesOfOp16 op16)
  | .op8 make => ∀ op8, encode (make op8) = .are mode [op8]

/-- R101: each selector's operations are encoded under that selector. -/
theorem areMap_encoded : ∀ e ∈ areMap, e.2.EncodedUnder e.1 := by
  simp only [areMap, List.forall_mem_cons, AreForm.EncodedUnder, encode, implies_true, List.not_mem_nil,
    IsEmpty.forall_iff, and_self]

/-- R110: each written register's operation is encoded as a write of its address. -/
theorem mmioWriteMap_encoded : ∀ e ∈ mmioWriteMap, ∀ b, encode (e.2 b) = .mmioWrite e.1 b := by
  simp only [mmioWriteMap, List.forall_mem_cons, encode, implies_true, List.not_mem_nil, IsEmpty.forall_iff, and_self]

/-- R110: each read register's operation is encoded as a read of its address. -/
theorem mmioReadMap_encoded : ∀ e ∈ mmioReadMap, encode e.2 = .mmioRead e.1 := by
  simp only [mmioReadMap, List.forall_mem_cons, encode, implies_true, List.not_mem_nil, IsEmpty.forall_iff, and_self]

/-- R101, R102: an ARE request is the encoding of the operation it decodes to. -/
theorem encode_of_decodeAre_ok {mode : BitVec 4} {operand : List Byte} {i : Instr}
    (h : decodeAre mode operand = .ok i) : encode i = .are mode operand := by
  unfold decodeAre at h
  split at h
  case h_1 make first second form =>
    cases h
    have encoded : (AreForm.op16 make).EncodedUnder mode := areMap_encoded _ (mem_of_lookup form)
    rw [encoded, bytesOfOp16_op16OfBytes]
  case h_2 make only form =>
    cases h
    exact areMap_encoded _ (mem_of_lookup form) only
  case h_3 => cases h
  case h_4 => cases h

/-- A mapped decoding succeeds with the image of what the decoding gives. -/
theorem eq_of_map_ok {ε α β : Type} {x : Except ε α} {f : α → β} {b : β} (h : x.map f = .ok b) :
    ∃ a, x = .ok a ∧ f a = b := by
  obtain ⟨a, rfl⟩ := ok_of_map_ok h
  cases h
  exact ⟨a, rfl, rfl⟩

/-- R120: a layer decodes to itself. -/
theorem val_of_decodeLayer_ok {layer : Nat} {n : Fin 4} (h : decodeLayer layer = .ok n) : n.val = layer := by
  rw [decodeLayer, dif_pos (layer_lt_of_decodeLayer_ok h)] at h
  exact congrArg Fin.val (Except.ok.inj h.symm)

/-- R120: a mode decodes to itself. -/
theorem toNat_of_decodeMode_ok {mode : Nat} {m : BitVec 3} (h : decodeMode mode = .ok m) : m.toNat = mode := by
  have lt := mode_lt_of_decodeMode_ok h
  rw [decodeMode, if_pos lt] at h
  cases h
  exact Nat.mod_eq_of_lt lt

/-- R120: a tile query is the encoding of the operation it decodes to. -/
theorem encode_of_decodeQuery_ok {qsel : BitVec 2} {args : List Nat} {i : Instr} (h : decodeQuery qsel args = .ok i) :
    encode i = .query qsel args := by
  unfold decodeQuery at h
  split at h
  case h_1 | h_2 =>
    obtain ⟨n, layer, rfl⟩ := eq_of_map_ok h
    cases val_of_decodeLayer_ok layer
    rfl
  case h_3 =>
    obtain ⟨m, mode, rfl⟩ := eq_of_map_ok h
    cases toNat_of_decodeMode_ok mode
    rfl
  case h_4 =>
    obtain ⟨m, mode, h⟩ := ok_of_bind_ok h
    obtain ⟨n, layer, rfl⟩ := eq_of_map_ok h
    cases toNat_of_decodeMode_ok mode
    cases val_of_decodeLayer_ok layer
    rfl
  case h_5 => cases h

/-- R105: a request is the encoding of the operation it decodes to. -/
theorem encode_of_decode_ok {r : Request} {i : Instr} (h : decode r = .ok i) : encode i = r := by
  cases r with
  | are mode operand => exact encode_of_decodeAre_ok h
  | mmioWrite addr data =>
    simp only [decode] at h
    split at h
    case h_1 make found =>
      cases h
      exact mmioWriteMap_encoded _ (mem_of_lookup found) data
    case h_2 => cases h
  | mmioRead addr =>
    simp only [decode] at h
    split at h
    case h_1 op found =>
      cases h
      exact mmioReadMap_encoded _ (mem_of_lookup found)
    case h_2 => cases h
  | query qsel args => exact encode_of_decodeQuery_ok h

/-- Settles O1: each constructor's request decodes to it, and each entry of the decoder's tables is encoded as its
key. -/
theorem decodeAndEncodeAgreeForEveryOperation : Obligations.DecodeAndEncodeAgreeForEveryOperation :=
  ⟨decode_encode, fun _ _ => encode_of_decode_ok⟩

/-! ### What is well formed decodes (R101, R110, R120) -/

/-- A register map finds every one of its addresses. -/
theorem lookup_of_mem_keys {α : Type} {map : List (BitVec 16 × α)} {addr : BitVec 16}
    (h : addr ∈ map.map Prod.fst) : ∃ v, map.lookup addr = some v := by
  obtain ⟨e, mem, rfl⟩ := List.mem_map.mp h
  exact Option.isSome_iff_exists.mp (List.lookup_isSome_iff.mpr ⟨e, mem, BEq.rfl⟩)

/-- R101, R103: an ARE request decodes when it has as many operand bytes as its selector takes. -/
theorem decodeAre_ok_of_areOperandBytes {mode : BitVec 4} {operand : List Byte}
    (h : areOperandBytes mode = some operand.length) : ∃ i, decodeAre mode operand = .ok i := by
  rw [areOperandBytes_eq] at h
  obtain ⟨form, found, bytes⟩ := Option.map_eq_some_iff.mp h
  cases form with
  | op16 make =>
    obtain ⟨first, second, rfl⟩ := List.length_eq_two.mp bytes.symm
    exact ⟨make (op16OfBytes first second), by simp only [decodeAre, found]⟩
  | op8 make =>
    obtain ⟨only, rfl⟩ := List.length_eq_one_iff.mp bytes.symm
    exact ⟨make only, by simp only [decodeAre, found]⟩

/-- R101, R110, R120: a well-formed request decodes; a tile query within its domains is an operation's encoding. -/
theorem decode_ok_of_wellFormed {r : Request} (h : r.WellFormed = true) : ∃ i, decode r = .ok i := by
  unfold Request.WellFormed at h
  split at h
  case h_1 mode operand => exact decodeAre_ok_of_areOperandBytes (eq_of_beq h)
  case h_2 addr data =>
    obtain ⟨make, found⟩ := lookup_of_mem_keys (map := mmioWriteMap) (List.contains_iff_mem.mp h)
    exact ⟨make data, by simp only [decode, found]⟩
  case h_3 addr =>
    obtain ⟨i, found⟩ := lookup_of_mem_keys (map := mmioReadMap) (List.contains_iff_mem.mp h)
    exact ⟨i, by simp only [decode, found]⟩
  case h_4 layer x y => exact ⟨_, decode_encode (.tmaddr ⟨layer, of_decide_eq_true h⟩ x y)⟩
  case h_5 layer x y => exact ⟨_, decode_encode (.tile ⟨layer, of_decide_eq_true h⟩ x y)⟩
  case h_6 mode => exact ⟨_, decode_encode (.validbg (BitVec.ofNatLT mode (of_decide_eq_true h)))⟩
  case h_7 mode layer =>
    obtain ⟨hmode, hlayer⟩ := Bool.and_eq_true_iff.mp h
    exact ⟨_, decode_encode
      (.cdepth (BitVec.ofNatLT mode (of_decide_eq_true hmode)) ⟨layer, of_decide_eq_true hlayer⟩)⟩
  case h_8 => cases h

/-- Settles O2: the domains name the same selectors, addresses and argument ranges as the decoder's tables. -/
theorem decoderAcceptsExactlyTheDefinedRequests : Obligations.DecoderAcceptsExactlyTheDefinedRequests := fun _ =>
  ⟨decode_ok_of_wellFormed, fun ⟨_, decoded⟩ => wellFormed_of_decode_ok decoded⟩

/-! ### Requests written out (R101, R102, R110, R120) -/

/-- Settles O3: each tuple is the encoding of its operation. -/
theorem specTuplesDecodeToTheirOperations : Obligations.SpecTuplesDecodeToTheirOperations :=
  ⟨decode_encode (.abs 0xFFFF), decode_encode (.absx 0xFFFE), decode_encode (.dpx 0xFF), decode_encode (.dpind 0x10),
    decode_encode (.dpindly 0x40), decode_encode (.bgmode 0x01), decode_encode (.bg1hofs 0x80),
    decode_encode (.m7a 0x01), decode_encode (.oamaddh 0x80), decode_encode .oamdataread, decode_encode (.tile 0 3 2),
    decode_encode (.cdepth 1 2)⟩

/-- Settles O4: the operand of the Absolute family is `op16OfBytes`, an append; that of the Direct family is the
byte. -/
theorem operandBytesAssembleLittleEndian : Obligations.OperandBytesAssembleLittleEndian := fun first second =>
  ⟨⟨op16OfBytes first second, append_toNat second first, rfl, rfl, rfl⟩,
    decode_encode (.dp first), decode_encode (.dpx first), decode_encode (.dpy first), decode_encode (.dpind first),
    decode_encode (.dpxind first), decode_encode (.dpindy first), decode_encode (.dpindl first),
    decode_encode (.dpindly first)⟩

end Sys2Proof

namespace Sys2Proof.Machine

/-! ### The invariant through each update of the state (R39, R84, R85, R251) -/

section InvariantUpdates

variable {s : State} (inv : Safety.Inv s)

include inv

theorem inv_answer (r : Result) : Safety.Inv (s.answer r) := { inv with }

theorem inv_setScreenMode (v : BitVec 3) : Safety.Inv (s.setScreenMode v) := { inv with }

theorem inv_setMosaicSize (v : BitVec 4) : Safety.Inv (s.setMosaicSize v) := { inv with }

theorem inv_setLatches (latch1 latch2 : Byte) : Safety.Inv (s.setLatches latch1 latch2) := { inv with }

theorem inv_setM7 {m : Mode7} (cache : m.cache.toNat < 0x100) : Safety.Inv (s.setM7 m) := { inv with cache }

theorem inv_setOam {o : Oam} (oam : Memory.wf .oam Config.oamSize o.bytes) : Safety.Inv (s.setOam o) :=
  { inv with oam }

theorem inv_setRegs (r : RegFile) : Safety.Inv (s.setRegs r) := { inv with }

theorem inv_setInputs (l : List Input) : Safety.Inv (s.setInputs l) := { inv with }

theorem inv_setBus {m : Memory} (bus : Memory.wf .bus Config.busSize m) : Safety.Inv (s.setBus m) := { inv with bus }

theorem inv_setVram {m : Memory} (vram : Memory.wf .vram s.params.vramSize m) : Safety.Inv (s.setVram m) :=
  { inv with vram }

theorem inv_reportFault (f : Fault) : Safety.Inv (s.reportFault f) := { inv with }

theorem inv_reportRefusal (q : Refusal) : Safety.Inv (s.reportRefusal q) := { inv with }

/-- R251: a replaced record keeps the layer's priority field. -/
theorem inv_setLayer {n : Fin 4} {r : BgRecord} (priority : r.priority = (s.layer n).priority) :
    Safety.Inv (s.setLayer n r) := by
  refine { inv with priority := fun m other => ?_ }
  rw [State.setLayer_layer]
  split
  case isTrue own => exact priority.trans (own ▸ inv.priority m other)
  case isFalse => exact inv.priority m other

/-- R251: a rewriting that keeps the priority field of every layer but layer 2. -/
theorem inv_mapLayers {f : Fin 4 → BgRecord → BgRecord} (priority : ∀ n r, n ≠ 2 → (f n r).priority = r.priority) :
    Safety.Inv (s.mapLayers f) := by
  refine { inv with priority := fun n other => ?_ }
  rw [State.mapLayers_layer, priority n _ other]
  exact inv.priority n other

/-- R83: a Memory Bus read makes one draw and one record. -/
theorem inv_logBusRead (a : Addr24) (b : Byte) : Safety.Inv (s.logBusRead a b) := by
  refine { inv with draws := ?_ }
  rw [State.logBusRead_draws, State.logBusRead_busLog, State.logBusRead_vramLog, List.length_append, inv.draws]
  exact Nat.add_right_comm ..

/-- R84: a VRAM read makes one draw and one record, whose address lies within video memory. -/
theorem inv_logVramRead {a : Nat} (inside : a < s.params.vramSize) (b : Byte) : Safety.Inv (s.logVramRead a b) := by
  refine { inv with draws := ?_, vramLog := fun r hr => ?_ }
  case refine_1 =>
    rw [State.logVramRead_draws, State.logVramRead_busLog, State.logVramRead_vramLog, List.length_append, inv.draws]
    rfl
  case refine_2 =>
    rcases List.mem_append.mp hr with old | new
    · exact inv.vramLog r old
    · rw [List.mem_singleton.mp new]
      exact inside

/-- R84: a reduced address lies within video memory. -/
theorem inv_vramAddr_lt (a : Nat) : s.vramAddr a < s.params.vramSize := Nat.mod_lt a inv.vramSize

/-! ### The invariant through what the units do -/

/-- R212: the reads of a 16-bit pointer. -/
theorem inv_ptr16 (op8 : Byte) (i : BitVec 16) : Safety.Inv (s.ptr16 op8 i).2 :=
  inv_logBusRead (inv_logBusRead inv ..) ..

/-- R213: the reads of a 24-bit pointer. -/
theorem inv_ptr24 (op8 : Byte) (i : BitVec 16) : Safety.Inv (s.ptr24 op8 i).2 :=
  inv_logBusRead (inv_logBusRead (inv_logBusRead inv ..) ..) ..

/-- R313: the reads of a tilemap entry. -/
theorem inv_entryAt (a : Nat) : Safety.Inv (s.entryAt a).2 :=
  inv_logVramRead (inv_logVramRead inv (inv_vramAddr_lt inv a) _) (inv_vramAddr_lt inv (a + 1)) _

/-- R39: a cascade write leaves a byte in the cache. -/
theorem inv_m7write (p : M7Param) (b : Byte) : Safety.Inv (s.m7write p b) :=
  inv_setM7 inv ((s.m7.cascade_cache_toNat p b).trans_lt b.isLt)

/-- R290: a horizontal transition replaces a scroll value and the latches. -/
theorem inv_hWrite (n : Fin 4) (b : Byte) : Safety.Inv (s.hWrite n b) := by
  refine inv_setLatches (inv_setLayer inv ?_) b b
  rfl

/-- R291: a vertical transition replaces a scroll value and a latch. -/
theorem inv_vWrite (n : Fin 4) (b : Byte) : Safety.Inv (s.vWrite n b) := by
  refine inv_setLatches (inv_setLayer inv ?_) b _
  rfl

/-- R257 to R260: a rewriting of two layers' records that keeps their priority fields. -/
theorem inv_mapLayers_two {low high : Fin 4} {f g : BgRecord → BgRecord} (hf : ∀ r, (f r).priority = r.priority)
    (hg : ∀ r, (g r).priority = r.priority) :
    Safety.Inv (s.mapLayers fun n r => if n = low then f r else if n = high then g r else r) := by
  refine inv_mapLayers inv fun n r _ => ?_
  split
  case isTrue => exact hf r
  case isFalse =>
    split
    case isTrue => exact hg r
    case isFalse => rfl

end InvariantUpdates

/-! ### The invariant through every operation and every step -/

/-- R363: an OAM write that answers a next state commits within the array or only buffers. -/
theorem inv_of_exec_oamdata {b : Byte} {s t : State} (inv : Safety.Inv s) (run : exec (.oamdata b) s = .next t) :
    Safety.Inv t := by
  cases parity : s.oam.flip with
  | false =>
    cases (exec_oamdata_of_even b parity).symm.trans run
    refine inv_answer (inv_setOam inv ?_) _
    exact inv.oam
  | true =>
    rcases Nat.lt_or_ge s.oam.word.toNat 272 with inside | beyond
    · cases (exec_oamdata_of_odd b parity inside).symm.trans run
      have fits : s.oam.wordPosition + 1 < Config.oamSize := by
        simp only [Oam.wordPosition, Config.oamSize]
        omega
      refine inv_answer (inv_setOam inv ?_) _
      rw [Oam.advance_bytes]
      exact s.oam.commit_wf b fits inv.oam
    · cases (exec_oamdata_of_beyond b parity beyond).symm.trans run

/-- R365: an OAM read that answers a next state leaves the bytes. -/
theorem inv_of_exec_oamdataread {s t : State} (inv : Safety.Inv s) (run : exec .oamdataread s = .next t) :
    Safety.Inv t := by
  rcases Nat.lt_or_ge s.oam.position 544 with inside | beyond
  · cases (exec_oamdataread_of_inside inside).symm.trans run
    refine inv_answer (inv_setOam inv ?_) _
    rw [Oam.advance_bytes]
    exact inv.oam
  · cases (exec_oamdataread_of_beyond beyond).symm.trans run

/-- R313: TILE makes the reads of one tilemap entry. -/
theorem inv_of_exec_tile {layer : Fin 4} {x y : Nat} {s t : State} (inv : Safety.Inv s)
    (run : exec (.tile layer x y) s = .next t) : Safety.Inv t := by
  cases depth : colorDepth s.screenMode layer with
  | none => cases (exec_tile_of_none depth x y).symm.trans run
  | some d =>
    cases (exec_tile_of_some depth x y).symm.trans run
    exact inv_answer (inv_entryAt inv _) _

/-- R39, R84, R85, R251: an operation that answers a next state keeps the invariant. -/
theorem exec_keeps_inv {i : Instr} {s t : State} (inv : Safety.Inv s) (run : exec i s = .next t) : Safety.Inv t := by
  cases i
  case oamdata => exact inv_of_exec_oamdata inv run
  case oamdataread => exact inv_of_exec_oamdataread inv run
  case tile => exact inv_of_exec_tile inv run
  case cdepth => rw [execCdepth_only run]; exact inv_answer inv _
  all_goals cases run
  all_goals refine inv_answer ?_ _
  case abs | absx | absy | dp | dpx | dpy | tmaddr | validbg => exact inv
  case dpind | dpxind | dpindy => exact inv_ptr16 inv ..
  case dpindl | dpindly => exact inv_ptr24 inv ..
  case oamaddl | oamaddh => exact inv_setOam inv inv.oam
  case bgmode => exact inv_mapLayers (inv_setScreenMode inv _) fun n r other => if_neg other
  case mosaic => exact inv_mapLayers (inv_setMosaicSize inv _) fun _ _ _ => rfl
  case bg1sc | bg2sc | bg3sc | bg4sc => exact inv_setLayer inv rfl
  case bg12nba | bg34nba | w12sel | w34sel => exact inv_mapLayers_two inv (fun _ => rfl) fun _ => rfl
  case wbglog | tm | ts | tmw | tsw | cgadsub => exact inv_mapLayers inv fun _ _ _ => rfl
  case bg1hofs => exact inv_m7write (inv_hWrite inv ..) ..
  case bg1vofs => exact inv_m7write (inv_vWrite inv ..) ..
  case bg2hofs | bg3hofs | bg4hofs => exact inv_hWrite inv ..
  case bg2vofs | bg3vofs | bg4vofs => exact inv_vWrite inv ..
  case m7sel => exact inv_setM7 inv inv.cache
  case m7a | m7b | m7c | m7d | m7x | m7y => exact inv_m7write inv ..

/-- R39, R84, R85, R251: a step keeps the invariant, whatever waits first. -/
theorem step_keeps_inv {s t : State} (inv : Safety.Inv s) (h : step s = .next t) : Safety.Inv t := by
  obtain ⟨-, rfl⟩ | ⟨regs, rest, -, rfl⟩ | ⟨a, v, rest, -, rfl⟩ | ⟨a, v, rest, -, rfl⟩ | ⟨caller, r, rest, q, -, rfl⟩ |
    ⟨r, rest, i, -, -, run | ⟨f, -, rfl⟩⟩ := step_cases h
  · exact inv
  · exact inv_setRegs (inv_setInputs inv rest) regs
  · exact inv_setBus (inv_setInputs inv rest) (Memory.wf_put v a.isLt inv.bus)
  · exact inv_setVram (inv_setInputs inv rest) (Memory.wf_put v (inv_vramAddr_lt inv a) inv.vram)
  · exact inv_reportRefusal (inv_setInputs inv rest) q
  · exact exec_keeps_inv (inv_setInputs inv rest) run
  · exact inv_reportFault (inv_setInputs inv rest) f

/-- Construction with some video memory meets the invariant: the memories list nothing and every field is zero. -/
theorem inv_construct (p : Params) (owner : Nat) (size : 0 < p.vramSize) : Safety.Inv (State.construct p owner) where
  bus := Memory.wf_nil ..
  vram := Memory.wf_nil ..
  oam := Memory.wf_nil ..
  vramSize := size
  cache := Nat.succ_pos 255
  priority n _ := congrArg BgRecord.priority (construct_layer p owner n)
  draws := rfl
  vramLog _ h := by cases h

end Sys2Proof.Machine

namespace Sys2Proof

open Sys2Proof.Machine

/-- Settles O9: each kind of input is a sequence of updates that keep the invariant. -/
theorem everyStepKeepsTheInvariant : Obligations.EveryStepKeepsTheInvariant := fun _ _ => step_keeps_inv

/-- Settles O10: the default parameters have 65536 bytes of video memory. -/
theorem constructionMeetsTheInvariant : Obligations.ConstructionMeetsTheInvariant :=
  ⟨rfl, inv_construct _ _ (by decide), inv_construct⟩

end Sys2Proof

namespace Sys2Proof

open Sys2Proof.Machine

/-! ### What one step does (R406, R407, R402, R431) -/

/-- Settles O5: the step settles the operation's outcome in the state without the request. -/
theorem stepRunsTheDecodedOperation : Obligations.StepRunsTheDecodedOperation := fun _ _ _ _ first decoded =>
  ⟨fun _ run => (step_of_request first decoded).trans (congrArg (settle _) run),
    fun _ run => (step_of_request first decoded).trans (congrArg (settle _) run)⟩

/-- Settles O7: whether the caller is the owner is decided before the request is decoded. -/
theorem foreignRequestsAreRefusedWithoutEffect : Obligations.ForeignRequestsAreRefusedWithoutEffect :=
  fun _ _ _ _ first foreign => ⟨step_of_acceptRequest_done first (acceptRequest_foreign foreign), rfl⟩

end Sys2Proof

namespace Sys2Proof.Machine

/-- R431: with nothing waiting a step changes nothing. -/
theorem step_of_idle {s : State} (none : s.inputs = []) : step s = .next s := by
  simp only [step, takeInput, none]

/-- R27: a step that takes a register file. -/
theorem step_of_registers {s : State} {r : RegFile} {rest : List Input} (first : s.inputs = .registers r :: rest) :
    step s = .next ((s.setInputs rest).setRegs r) := by
  simp only [step, takeInput, first]

/-- R80: a step that takes a Memory Bus byte. -/
theorem step_of_busCell {s : State} {a : Addr24} {v : Option Byte} {rest : List Input}
    (first : s.inputs = .busCell a v :: rest) :
    step s = .next ((s.setInputs rest).setBus (Memory.put .bus s.bus a.toNat v)) := by
  simp only [step, takeInput, first]

/-- R84: a step that takes a video memory byte. -/
theorem step_of_vramCell {s : State} {a : Nat} {v : Option Byte} {rest : List Input}
    (first : s.inputs = .vramCell a v :: rest) :
    step s = .next ((s.setInputs rest).setVram (Memory.put .vram s.vram (s.vramAddr a) v)) := by
  simp only [step, takeInput, first]

end Sys2Proof.Machine

namespace Sys2Proof

open Sys2Proof.Machine

/-- Settles O8: a put is read back at its address and at no other. -/
theorem outsideChangesReachLaterRequests : Obligations.OutsideChangesReachLaterRequests := fun s =>
  ⟨step_of_idle, fun _ _ => step_of_registers,
    fun a v _ first => ⟨_, step_of_busCell first, rfl, Memory.read_put_self .bus rfl s.bus a.toNat v,
      fun n => Memory.read_put_ne .bus s.bus a.toNat n v⟩,
    fun a v _ first => ⟨_, step_of_vramCell first, rfl, Memory.read_put_self .vram rfl s.vram (s.vramAddr a) v,
      fun n => Memory.read_put_ne .vram s.vram (s.vramAddr a) n v⟩⟩

end Sys2Proof

namespace Sys2Proof.Machine

/-! ### The records of faults and refusals (R407, R444) -/

/-- The second state's records of faults and refusals begin with those of the first. -/
structure RecordsGrow (s t : State) : Prop where
  faults : ∃ new, t.faults = s.faults ++ new
  refusals : ∃ new, t.refusals = s.refusals ++ new

theorem recordsGrow_of_same {s t : State} (faults : t.faults = s.faults) (refusals : t.refusals = s.refusals) :
    RecordsGrow s t :=
  ⟨⟨[], faults.trans (List.append_nil _).symm⟩, ⟨[], refusals.trans (List.append_nil _).symm⟩⟩

/-- R407: an operation that answers a next state records nothing. -/
theorem exec_keeps_records {i : Instr} {s t : State} (run : exec i s = .next t) :
    t.faults = s.faults ∧ t.refusals = s.refusals := by
  rw [exec_frame run]
  exact ⟨rfl, rfl⟩

/-- R407, R444: a step records at most one fault or one refusal, at the end. -/
theorem step_recordsGrow {s t : State} (h : step s = .next t) : RecordsGrow s t := by
  obtain ⟨-, rfl⟩ | ⟨regs, rest, -, rfl⟩ | ⟨a, v, rest, -, rfl⟩ | ⟨a, v, rest, -, rfl⟩ | ⟨caller, r, rest, q, -, rfl⟩ |
    ⟨r, rest, i, -, -, run | ⟨f, -, rfl⟩⟩ := step_cases h
  · exact recordsGrow_of_same rfl rfl
  · exact recordsGrow_of_same rfl rfl
  · exact recordsGrow_of_same rfl rfl
  · exact recordsGrow_of_same rfl rfl
  · exact ⟨⟨[], (List.append_nil _).symm⟩, ⟨[q], rfl⟩⟩
  · obtain ⟨faults, refusals⟩ := exec_keeps_records run
    exact recordsGrow_of_same faults refusals
  · exact ⟨⟨[f], rfl⟩, ⟨[], (List.append_nil _).symm⟩⟩

/-- R444: a state whose records grew to nothing had recorded nothing. -/
theorem clean_of_recordsGrow {s t : State} (grow : RecordsGrow s t) (clean : Safety.Clean t) : Safety.Clean s := by
  obtain ⟨⟨faults, hf⟩, ⟨refusals, hr⟩⟩ := grow
  obtain ⟨noFault, noRefusal⟩ := clean
  exact ⟨List.append_eq_nil_iff.mp (hf.symm.trans noFault) |>.left,
    List.append_eq_nil_iff.mp (hr.symm.trans noRefusal) |>.left⟩

end Sys2Proof.Machine

namespace Sys2Proof

open Sys2Proof.Machine

/-- Settles O16: both records grow, so they end empty only if they began empty. -/
theorem recordedFaultsAndRefusalsAreNeverCleared : Obligations.RecordedFaultsAndRefusalsAreNeverCleared := fun _ _ h =>
  have grow := step_recordsGrow h
  ⟨grow.faults, grow.refusals, clean_of_recordsGrow grow⟩

/-! ### The register file (R21, R23, R24) -/

/-- Settles O17: `exec_frame` lists these fields among those that every operation keeps. -/
theorem noOperationWritesRegistersOrExternalMemory : Obligations.NoOperationWritesRegistersOrExternalMemory := by
  intro i s t run
  rw [exec_frame run]
  exact ⟨⟨rfl, rfl, rfl⟩, rfl, rfl, ⟨fun _ => rfl, fun _ => rfl⟩, ⟨rfl, rfl, rfl⟩⟩

/-- Settles O19: the outcome under the other register file is the same one with that register file in it. -/
theorem onlyFiveRegistersAreRead : Obligations.OnlyFiveRegistersAreRead := by
  intro i s r d dbr x y e
  have same := exec_setRegs i s r ⟨d, dbr, x, y, e⟩
  exact ⟨fun _ run => same.trans (congrArg _ run), fun _ run => same.trans (congrArg _ run)⟩

/-- Settles O21: the three reads are `forcedRead` with their own forced byte. -/
theorem registerReadsForceTheHighByte : Obligations.RegisterReadsForceTheHighByte := fun p r =>
  ⟨idxX_toNat p r, idxY_toNat p r, forcedRead_toNat r.e p.forcedSH r.s⟩

end Sys2Proof

namespace Sys2Proof.Machine

/-! ### Bytes that agree in some of their bits (R112) -/

/-- Bytes that agree below a bit have the same flags there. -/
theorem flagBit_of_mod_eq {b c : Byte} {w i : Nat} (same : b.toNat % 2 ^ w = c.toNat % 2 ^ w) (below : i < w) :
    flagBit b i = flagBit c i := by
  have low (x : Byte) : flagBit x i = (x.toNat % 2 ^ w).testBit i := by
    rw [flagBit_eq, Nat.testBit_mod_two_pow, decide_eq_true below, Bool.true_and]
  rw [low, low, same]

/-- R262 to R266: an enable register reads the low nibble only. -/
theorem layerBit_of_low_nibble_eq {b c : Byte} (same : b.toNat % 16 = c.toNat % 16) :
    layerBit b 0 = layerBit c 0 :=
  funext fun n => flagBit_of_mod_eq (w := 4) same ((Nat.zero_add n.val).symm ▸ n.isLt)

/-- R340: M7SEL reads bits 7:6 and 1:0 only. -/
theorem exec_m7sel_of_settings_eq {b c : Byte} (high : b.toNat / 64 = c.toNat / 64) (low : b.toNat % 4 = c.toNat % 4)
    (s : State) : exec (.m7sel b) s = exec (.m7sel c) s := by
  have screenOver : field b 6 2 = field c 6 2 :=
    BitVec.eq_of_toNat_eq (by rw [field_toNat, field_toNat]; exact congrArg (· % 4) high)
  have vFlip : flagBit b 1 = flagBit c 1 := flagBit_of_mod_eq (w := 2) low (by decide)
  have hFlip : flagBit b 0 = flagBit c 0 := flagBit_of_mod_eq (w := 2) low (by decide)
  simp only [exec, execM7sel, screenOver, vFlip, hFlip]

/-- R361: OAMADDH reads bits 7 and 0 only. -/
theorem exec_oamaddh_of_bits_eq {b c : Byte} (high : b.toNat / 128 = c.toNat / 128) (low : b.toNat % 2 = c.toNat % 2)
    (s : State) : exec (.oamaddh b) s = exec (.oamaddh c) s := by
  have address : s.oam.highAddress b = s.oam.highAddress c :=
    BitVec.eq_of_toNat_eq (by rw [Oam.highAddress_toNat, Oam.highAddress_toNat, low])
  have rotation : flagBit b 7 = flagBit c 7 := by
    rw [flagBit_eq, flagBit_eq, Nat.testBit_eq_decide_div_mod_eq, Nat.testBit_eq_decide_div_mod_eq]
    exact congrArg (fun n => decide (n % 2 = 1)) high
  rw [exec_oamaddh, exec_oamaddh, Oam.reloaded, Oam.reloaded, address, rotation]

end Sys2Proof.Machine

namespace Sys2Proof

open Sys2Proof.Machine

/-- Settles O32: the enable registers read one bit per layer, all of the low nibble; the two others read the bits not
ignored. -/
theorem ignoredBitsAffectNothing : Obligations.IgnoredBitsAffectNothing := by
  refine fun b c s => ⟨fun same => ?enables, fun high low => exec_m7sel_of_settings_eq high low s,
    fun high low => exec_oamaddh_of_bits_eq high low s⟩
  have bits := layerBit_of_low_nibble_eq same
  simp only [exec, execTm, execTs, execTmw, execTsw, execCgadsub, bits, and_self]

/-- Settles O42: between the two writes every scroll write replaces `latch1`, and a horizontal one `latch2` as well. -/
theorem scrollLatchesAreSharedByEveryLayer : Obligations.ScrollLatchesAreSharedByEveryLayer := by
  refine fun n m lo other hi s => ⟨?horizontal, ?verticalAfterHorizontal, ?verticalAfterVertical⟩
  case horizontal =>
    refine ⟨_, runOps_three (exec_hScrollWrite n lo _) (exec_hScrollWrite m other _) (exec_hScrollWrite n hi _), ?_⟩
    rw [State.hScrolled_hScroll_toNat, State.hScrolled_latch1, State.hScrolled_latch2]
    omega
  case verticalAfterHorizontal =>
    refine ⟨_, runOps_three (exec_vScrollWrite n lo _) (exec_hScrollWrite m other _) (exec_vScrollWrite n hi _), ?_⟩
    rw [State.vScrolled_vScroll_toNat, State.hScrolled_latch1]
  case verticalAfterVertical =>
    refine ⟨_, runOps_three (exec_vScrollWrite n lo _) (exec_vScrollWrite m other _) (exec_vScrollWrite n hi _), ?_⟩
    rw [State.vScrolled_vScroll_toNat, State.vScrolled_latch1]

end Sys2Proof

namespace Sys2Proof.Machine

/-! ### Ranges of tile addresses and tile records (R312, R314, R316, R317) -/

/-- R311: what TMADDR does. -/
theorem exec_tmaddr (layer : Fin 4) (x y : Nat) (s : State) :
    exec (.tmaddr layer x y) s = .next (s.answer (.address (tilemapAddress (s.layer layer) x y))) := rfl

/-- R312: the largest base, quadrant, row and column together give 0x217FE. -/
theorem tilemapAddress_le (r : BgRecord) (x y : Nat) : tilemapAddress r x y ≤ 0x217FE := by
  have := r.tilemapBase.isLt
  have := quadrantIndex_le r.screenSize.toNat x y
  rw [tilemapAddress_eq]
  omega

/-- R312: an entry takes two bytes. -/
theorem tilemapAddress_even (r : BgRecord) (x y : Nat) : tilemapAddress r x y % 2 = 0 := by
  rw [tilemapAddress_eq]
  omega

/-- R311: coordinates wrap modulo 64. -/
theorem tilemapAddress_add_mul (r : BgRecord) (x y j k : Nat) :
    tilemapAddress r (x + 64 * j) (y + 64 * k) = tilemapAddress r x y := by
  simp only [tilemapAddress, quadrant, Nat.add_mul_mod_self_left]

/-- R312: the largest address is that of the last tile of the last quadrant. -/
theorem tilemapAddress_max {r : BgRecord} (base : r.tilemapBase = 63) (size : r.screenSize = 3) :
    tilemapAddress r 63 63 = 0x217FE := by
  rw [tilemapAddress_eq, base, size]
  rfl

/-- R271: every depth of the table is 2, 4 or 8. -/
theorem colorDepth_mem (mode : BitVec 3) (layer : Fin 4) : ∀ d ∈ colorDepth mode layer, d = 2 ∨ d = 4 ∨ d = 8 := by
  revert mode layer
  decide

/-- R314: the largest tileset base and tile index at the largest depth give 0x2DFC0. -/
theorem tileRecord_dataAddr_le (r : BgRecord) {d : Nat} (depth : d ≤ 8) (entry : BitVec 16) :
    (tileRecord r d entry).dataAddr ≤ 0x2DFC0 := by
  have := r.tilesetBase.isLt
  have tile : entry.toNat % 1024 * (8 * d) ≤ 1023 * (8 * 8) := Nat.mul_le_mul (by omega) (by omega)
  rw [tileRecord_dataAddr]
  omega

/-- R317: a tile is 8 or 16 pixels wide. -/
theorem tileRecord_width (r : BgRecord) (d : Nat) (entry : BitVec 16) :
    (tileRecord r d entry).width = 8 ∨ (tileRecord r d entry).width = 16 := by
  cases size : r.tileSize16 with
  | false => exact .inl (by simp [tileRecord, size])
  | true => exact .inr (by simp [tileRecord, size])

/-- R313: a record that TILE returns is that of an entry at a depth of the table. -/
theorem tileRecord_of_exec_tile {layer : Fin 4} {x y : Nat} {s t : State} {record : TileRecord}
    (run : exec (.tile layer x y) s = .next t) (result : t.result = .tile record) :
    ∃ d entry, colorDepth s.screenMode layer = some d ∧ record = tileRecord (s.layer layer) d entry := by
  cases depth : colorDepth s.screenMode layer with
  | none => cases (exec_tile_of_none depth x y).symm.trans run
  | some d =>
    cases (exec_tile_of_some depth x y).symm.trans run
    cases result
    exact ⟨d, _, rfl, rfl⟩

end Sys2Proof.Machine

namespace Sys2Proof

open Sys2Proof.Machine

/-- Settles O49: bound, evenness, wrap and maximum are those of `tilemapAddress`. -/
theorem tilemapAddressRange : Obligations.TilemapAddressRange := by
  refine ⟨fun layer x y s t a run result => ?range, fun layer s base size => ⟨_, exec_tmaddr layer 63 63 s, ?max⟩⟩
  case range =>
    cases (exec_tmaddr layer x y s).symm.trans run
    cases result
    refine ⟨tilemapAddress_le .., tilemapAddress_even .., fun j k => ?_⟩
    rw [exec_tmaddr, tilemapAddress_add_mul]
  case max => exact congrArg Result.address (tilemapAddress_max base size)

/-- Settles O51: the record is that of some entry, whatever was read, at a depth of the table. -/
theorem tileRecordRanges : Obligations.TileRecordRanges := by
  intro layer x y s t record run result
  obtain ⟨d, entry, depth, rfl⟩ := tileRecord_of_exec_tile run result
  have listed := colorDepth_mem s.screenMode layer d depth
  exact ⟨tileRecord_dataAddr_le _ (by omega) entry, listed, tileRecord_width .., rfl⟩

end Sys2Proof

namespace Sys2Proof.Machine

/-! ### Reads and reloads between two OAM writes (R438, R439) -/

/-- The state after an OAM write at even parity: the byte waits in the latch. -/
def State.buffered (s : State) (b : Byte) : State := (s.setOam { s.oam with latch := b, flip := true }).answer .nothing

/-- R363: at even parity an OAM write buffers its byte. -/
theorem exec_oamdata_buffers {s : State} (even : s.oam.flip = false) (b : Byte) :
    exec (.oamdata b) s = .next (s.buffered b) := exec_oamdata_of_even b even

/-- The state after an OAMADDH write: the pointer is reloaded at even parity. -/
def State.reloaded (s : State) (b : Byte) : State := (s.setOam (s.oam.reloaded b)).answer .nothing

/-- R361: an OAMADDH write reloads the pointer. -/
theorem exec_oamaddh_reloads (s : State) (b : Byte) : exec (.oamaddh b) s = .next (s.reloaded b) := exec_oamaddh b s

/-- R438: a read at odd parity moves on to the next word, at even parity. -/
theorem exec_oamdataread_of_odd {s : State} (odd : s.oam.flip = true) (inside : s.oam.word.toNat < 272) :
    ∃ t, exec .oamdataread s = .next t ∧ t.oam = { s.oam with flip := false, word := s.oam.word + 1 } := by
  have position : s.oam.position = s.oam.word.toNat * 2 + 1 := by rw [Oam.position, odd]; rfl
  exact ⟨_, exec_oamdataread_of_inside (by omega), Oam.advance_of_odd odd⟩

/-- R439: a read at even parity makes the parity odd, at the same word. -/
theorem exec_oamdataread_of_even {s : State} (even : s.oam.flip = false) (inside : s.oam.word.toNat < 272) :
    ∃ t, exec .oamdataread s = .next t ∧ t.oam = { s.oam with flip := true } := by
  have position : s.oam.position = s.oam.word.toNat * 2 := by rw [Oam.position, even]; rfl
  exact ⟨_, exec_oamdataread_of_inside (by omega), Oam.advance_of_even even⟩

/-- R363: the bytes of OAM after an odd write at word `w` over the latch `first`. -/
theorem Oam.commit_advance_byteAt {o : Oam} {w : Nat} {first : Byte} (word : o.word.toNat = w)
    (latch : o.latch = first) (second : Byte) (k : Nat) : (o.commit second).advance.byteAt k =
      if k = w * 2 + 1 then second else if k = w * 2 then first else o.byteAt k := by
  rw [advance_byteAt, commit_byteAt, wordPosition, word, latch]

/-- The unit reads as its bytes say, whatever its registers hold. -/
theorem Oam.byteAt_of_bytes_eq {o o' : Oam} (h : o'.bytes = o.bytes) (i : Nat) : o'.byteAt i = o.byteAt i := by
  rw [byteAt, byteAt, h]

/-- R438: a read between makes the second write a buffering one. -/
theorem runOps_write_read_write {s : State} (even : s.oam.flip = false) (inside : s.oam.word.toNat < 272)
    (first second : Byte) : ∃ t, Safety.runOps [.oamdata first, .oamdataread, .oamdata second] s = .next t ∧
      SameOamBytes s t ∧ t.oam.latch = second := by
  obtain ⟨u, read, oam⟩ := exec_oamdataread_of_odd (s := s.buffered first) rfl inside
  have evenAgain : u.oam.flip = false := by rw [oam]
  have bytes : u.oam.bytes = s.oam.bytes := by rw [oam]; rfl
  refine ⟨u.buffered second, runOps_three (exec_oamdata_buffers even first) read
    (exec_oamdata_buffers evenAgain second), Oam.byteAt_of_bytes_eq bytes, rfl⟩

/-- R439: a reload between makes the second write a buffering one. -/
theorem runOps_write_reload_write {s : State} (even : s.oam.flip = false) (first second high : Byte) :
    ∃ t, Safety.runOps [.oamdata first, .oamaddh high, .oamdata second] s = .next t ∧
      SameOamBytes s t ∧ t.oam.latch = second := by
  have reload := exec_oamaddh_reloads (s.buffered first) high
  exact ⟨((s.buffered first).reloaded high).buffered second,
    runOps_three (exec_oamdata_buffers even first) reload (exec_oamdata_buffers rfl second),
    Oam.byteAt_of_bytes_eq rfl, rfl⟩

/-- R439: after a reload a read makes the parity odd, so the second write commits both bytes at the reloaded word. -/
theorem runOps_write_reload_read_write {s : State} (even : s.oam.flip = false) {high : Byte} {w : Nat}
    (reloaded : (s.oam.highAddress high).toNat = w) (inside : w < 272) (first second : Byte) :
    ∃ t, Safety.runOps [.oamdata first, .oamaddh high, .oamdataread, .oamdata second] s = .next t ∧
      t.oam.byteAt (w * 2) = first ∧ t.oam.byteAt (w * 2 + 1) = second := by
  have reload := exec_oamaddh_reloads (s.buffered first) high
  obtain ⟨v, read, oam⟩ :=
    exec_oamdataread_of_even (s := (s.buffered first).reloaded high) rfl (reloaded.trans_lt inside)
  have odd : v.oam.flip = true := by rw [oam]
  have word : v.oam.word.toNat = w := by rw [oam]; exact reloaded
  have latch : v.oam.latch = first := by rw [oam]; rfl
  have bytes := Oam.commit_advance_byteAt word latch second
  refine ⟨_, (runOps_cons_of_next (exec_oamdata_buffers even first) _).trans
    (runOps_three reload read (exec_oamdata_of_odd second odd (word.trans_lt inside))), ?low, ?high⟩
  case low => exact (bytes _).trans (by simp)
  case high => exact (bytes _).trans (if_pos rfl)

end Sys2Proof.Machine

namespace Sys2Proof

open Sys2Proof.Machine

/-- Settles O59: whether the second write buffers or commits is the parity that the operations between leave. -/
theorem readsAndReloadsShiftTheOamParity : Obligations.ReadsAndReloadsShiftTheOamParity :=
  fun first second high s even =>
    ⟨fun inside => runOps_write_read_write even inside first second,
      runOps_write_reload_write even first second high,
      fun inside => runOps_write_reload_read_write even (s.oam.highAddress_toNat high) inside first second⟩

end Sys2Proof
